-- ==== Sys2Proof/Word.lean ====
section
/-! DEFINITION. The word types of the machine (`00_scope.md` R7, R8). -/

namespace Sys2Proof

/-- A 64-bit register value, address or result: the `u64` of R7. -/
abbrev Word := BitVec 64

/-- The unit of addressing (`10_state.md` R44) and of the program text's slots. -/
abbrev Byte := BitVec 8

end Sys2Proof
end

