-- ==== Sys2Proof/Machine/Arith.lean ====
section
/-! DEFINITION. The arithmetic operations at any width: exact on integers, then reduced to the width
(`40_alu64.md` R200, R203; `41_alu32.md` R250, R253). -/

namespace Sys2Proof.Machine

/-- `(d + s) mod 2^w`. -/
def addOp {w : Nat} (d s : BitVec w) : BitVec w := d + s

/-- `(d - s) mod 2^w`. -/
def subOp {w : Nat} (d s : BitVec w) : BitVec w := d - s

/-- `(d * s) mod 2^w`. -/
def mulOp {w : Nat} (d s : BitVec w) : BitVec w := d * s

/-- Unsigned division; division by zero gives 0 (R203, R253). -/
def divOp {w : Nat} (d s : BitVec w) : BitVec w :=
  if s = 0 then 0 else BitVec.ofNat w (d.toNat / s.toNat)

/-- Signed division truncating toward zero, the quotient reduced mod 2^w; division by zero gives 0 (R203, R253). -/
def sdivOp {w : Nat} (d s : BitVec w) : BitVec w :=
  if s = 0 then 0 else BitVec.ofInt w (d.toInt.tdiv s.toInt)

/-- Unsigned remainder; modulo by zero gives d (R203, R253). -/
def modOp {w : Nat} (d s : BitVec w) : BitVec w :=
  if s = 0 then d else BitVec.ofNat w (d.toNat % s.toNat)

/-- Remainder of the signed division; modulo by zero gives d (R203, R253). -/
def smodOp {w : Nat} (d s : BitVec w) : BitVec w :=
  if s = 0 then d else BitVec.ofInt w (d.toInt.tmod s.toInt)

/-- `d | s`. -/
def orOp {w : Nat} (d s : BitVec w) : BitVec w := d ||| s

/-- `d & s`. -/
def andOp {w : Nat} (d s : BitVec w) : BitVec w := d &&& s

/-- `d ^ s`. -/
def xorOp {w : Nat} (d s : BitVec w) : BitVec w := d ^^^ s

/-- `-d mod 2^w`. -/
def negOp {w : Nat} (d : BitVec w) : BitVec w := -d

/-- The amount of a 64-bit shift: `S & 0x3f`. -/
def shiftAmount64 (s : BitVec 64) : Nat := (s &&& 0x3f).toNat

/-- The amount of a 32-bit shift: `S & 0x1f`. -/
def shiftAmount32 (s : BitVec 32) : Nat := (s &&& 0x1f).toNat

/-- 64-bit left shift. -/
def lsh64 (d s : BitVec 64) : BitVec 64 := d <<< shiftAmount64 s

/-- 64-bit logical right shift. -/
def rsh64 (d s : BitVec 64) : BitVec 64 := d >>> shiftAmount64 s

/-- 64-bit arithmetic right shift: the sign bit fills from above. -/
def arsh64 (d s : BitVec 64) : BitVec 64 := d.sshiftRight (shiftAmount64 s)

/-- 32-bit left shift. -/
def lsh32 (d s : BitVec 32) : BitVec 32 := d <<< shiftAmount32 s

/-- 32-bit logical right shift. -/
def rsh32 (d s : BitVec 32) : BitVec 32 := d >>> shiftAmount32 s

/-- 32-bit arithmetic right shift: bit 31 fills from above. -/
def arsh32 (d s : BitVec 32) : BitVec 32 := d.sshiftRight (shiftAmount32 s)

end Sys2Proof.Machine
end

