-- ==== Sys2Proof/Config.lean ====
section
/-! DEFINITION. The launch parameters of `00_scope.md` R6 as plain data, and the free values of the machine. -/

namespace Sys2Proof

/-- `ENDIAN`: the byte order of the encoding, of data and of the byte swaps (`20_memory.md` R76). -/
inductive Endian where
  | little | big
deriving DecidableEq, Repr

/-- `LOCAL_CALL_DISP`: the field of `CALL_LOCAL` that holds the displacement (`45_call_exit.md` R391). -/
inductive LocalCallDisp where
  | offset | imm
deriving DecidableEq, Repr

/-- One entry of `REGIONS`: its marks are `readable`, `writable`, and shared with other agents or not
(`20_memory.md` R71, R90). -/
structure Region where
  base : Word
  length : Nat
  readable : Bool
  writable : Bool
  shared : Bool
deriving DecidableEq, Repr

/-- What a helper function answers (`45_call_exit.md` R395): failure, or a result and the bytes of memory it changed. -/
inductive HelperAnswer where
  | failure
  | result (r : Word) (writes : List (Word × Byte))
deriving DecidableEq, Repr, Inhabited

/-- Which table a helper identifier is looked up in (`45_call_exit.md` R390, R392). -/
inductive HelperTable where
  | helpers | btfHelpers
deriving DecidableEq, Repr

/-- One case of a helper function: for these arguments, in a memory that holds these bytes, this answer. -/
structure HelperCase where
  args : List Word
  memory : List (Word × Byte)
  answer : HelperAnswer
deriving DecidableEq, Repr

/-- A helper function as launch data: its arity, and the function of (arguments, memory) that the launch gives
(`45_call_exit.md` R395), case by case, the first that applies. Where no case applies the answer is the free value
`Config.helperAnswer` (log entry 11). -/
structure Helper where
  arity : Fin 6
  known : List HelperCase
deriving DecidableEq, Repr

/-- The launch parameters of R6 but `PROG` and `ENTRY_ARGS`. A partial function is the list of its pairs. They are
parameters of the step, fixed for the whole execution (`10_state.md` R45; log entry 2). -/
structure Config where
  endian : Endian
  stackSize : Nat
  stackTop : Word
  maxCallDepth : Nat
  localCallDisp : LocalCallDisp
  alignStrict : Bool
  regions : List Region
  helpers : List (BitVec 32 × Helper)
  btfHelpers : List (BitVec 32 × Helper)
  mapByFd : List (BitVec 32 × Word)
  mapByIdx : List (BitVec 32 × Word)
  mapVal : List (Word × Word)
  varAddr : List (BitVec 32 × Word)
  codeAddr : List ((Int × BitVec 32) × Word)
deriving DecidableEq, Repr

/-- Free value: what the read number `draw` of this execution returns for a stack byte that nothing has written
(`20_memory.md` R81: any value, and two such reads need not agree). -/
opaque Config.unspecifiedByte (draw addr : Nat) : Byte

/-- Free value: what the launch gave a byte of a private region for which `State.mem` lists none (`20_memory.md` R81:
such a byte holds what the launch gave it, the same at every read; log entry 8). -/
opaque Config.launchByte (addr : Nat) : Byte

/-- Free value: what the read number `draw` of this execution returns for a shared byte whose latest value written by
this execution is `own` (`20_memory.md` R90, R91: an input of the step). -/
opaque Config.sharedByte (draw addr : Nat) (own : Option Byte) : Byte

/-- Free value: the answer of a helper function where the launch fixes none (`45_call_exit.md` R395: a platform
function of its arguments and memory, which may be non-deterministic). -/
opaque Config.helperAnswer (table : HelperTable) (imm : BitVec 32) (args : List Word)
    (memory : List (Nat × Byte)) (draw : Nat) : HelperAnswer

/-- The launch parameters of `State.reset`: the conventions of `95_test_vectors.md` (log entry 3, DESIGN CHOICE,
unsafe). `LOCAL_CALL_DISP` is the value R6 gives. -/
def Config.default : Config where
  endian := .little
  stackSize := 512
  stackTop := 0x10000
  maxCallDepth := 8
  localCallDisp := .offset
  alignStrict := false
  regions := [{ base := 0x2000, length := 0x100, readable := true, writable := true, shared := false }]
  helpers := []
  btfHelpers := []
  mapByFd := []
  mapByIdx := []
  mapVal := []
  varAddr := []
  codeAddr := []

end Sys2Proof
end

