-- ==== Sys2Proof/Syntax.lean ====
section
/-! DEFINITION. The syntax: registers, slots, instruction fields, and one constructor of `Instr` for each of the
166 rows of `opcode_table.json`. -/

namespace Sys2Proof

/-- The eleven registers (`10_state.md` R30); `r10` is the read-only frame pointer (R32). -/
inductive Reg where
  | r0 | r1 | r2 | r3 | r4 | r5 | r6 | r7 | r8 | r9 | r10
deriving DecidableEq, Repr

/-- The size modifier of a load or store opcode (`30_encoding.md` R131). -/
inductive MemSize where
  /-- `BPF_B`, 1 byte. -/
  | b
  /-- `BPF_H`, 2 bytes. -/
  | h
  /-- `BPF_W`, 4 bytes. -/
  | w
  /-- `BPF_DW`, 8 bytes. -/
  | dw
deriving DecidableEq, Repr

/-- A slot: 64 bits of program text as 8 bytes in increasing address (`30_encoding.md` R110, R111). -/
structure Slot where
  b0 : Byte
  b1 : Byte
  b2 : Byte
  b3 : Byte
  b4 : Byte
  b5 : Byte
  b6 : Byte
  b7 : Byte
deriving DecidableEq, Repr

/-- The five numbers a slot decodes to (`30_encoding.md` R112, R113), as bit patterns: `offset` and `imm` are read as
signed numbers where a rule says so. -/
structure Fields where
  opcode : BitVec 8
  dst : BitVec 4
  src : BitVec 4
  offset : BitVec 16
  imm : BitVec 32
deriving DecidableEq, Repr

/-- The instructions, one constructor per row of `opcode_table.json`, with the operands the row's rule gives it.
`dst` and `src` are registers, `offset` and `imm` the fields of those names, `nextImm` the `imm` field of a wide
instruction's second slot. `callLocal` keeps both fields that may hold its displacement (`45_call_exit.md` R391), and
the legacy rows keep every field, because every field of theirs is free (`49_legacy_packet.md` R500). -/
inductive Instr where
  /- 64-bit arithmetic, class `BPF_ALU64` (`40_alu64.md`) -/
  | add64K (dst : Reg) (imm : BitVec 32)
  | add64X (dst src : Reg)
  | sub64K (dst : Reg) (imm : BitVec 32)
  | sub64X (dst src : Reg)
  | mul64K (dst : Reg) (imm : BitVec 32)
  | mul64X (dst src : Reg)
  | div64K (dst : Reg) (imm : BitVec 32)
  | div64X (dst src : Reg)
  | sdiv64K (dst : Reg) (imm : BitVec 32)
  | sdiv64X (dst src : Reg)
  | or64K (dst : Reg) (imm : BitVec 32)
  | or64X (dst src : Reg)
  | and64K (dst : Reg) (imm : BitVec 32)
  | and64X (dst src : Reg)
  | lsh64K (dst : Reg) (imm : BitVec 32)
  | lsh64X (dst src : Reg)
  | rsh64K (dst : Reg) (imm : BitVec 32)
  | rsh64X (dst src : Reg)
  | mod64K (dst : Reg) (imm : BitVec 32)
  | mod64X (dst src : Reg)
  | smod64K (dst : Reg) (imm : BitVec 32)
  | smod64X (dst src : Reg)
  | xor64K (dst : Reg) (imm : BitVec 32)
  | xor64X (dst src : Reg)
  | mov64K (dst : Reg) (imm : BitVec 32)
  | mov64X (dst src : Reg)
  | arsh64K (dst : Reg) (imm : BitVec 32)
  | arsh64X (dst src : Reg)
  | neg64 (dst : Reg)
  | movsx64From8 (dst src : Reg)
  | movsx64From16 (dst src : Reg)
  | movsx64From32 (dst src : Reg)
  /- 32-bit arithmetic, class `BPF_ALU` (`41_alu32.md`) -/
  | add32K (dst : Reg) (imm : BitVec 32)
  | add32X (dst src : Reg)
  | sub32K (dst : Reg) (imm : BitVec 32)
  | sub32X (dst src : Reg)
  | mul32K (dst : Reg) (imm : BitVec 32)
  | mul32X (dst src : Reg)
  | div32K (dst : Reg) (imm : BitVec 32)
  | div32X (dst src : Reg)
  | sdiv32K (dst : Reg) (imm : BitVec 32)
  | sdiv32X (dst src : Reg)
  | or32K (dst : Reg) (imm : BitVec 32)
  | or32X (dst src : Reg)
  | and32K (dst : Reg) (imm : BitVec 32)
  | and32X (dst src : Reg)
  | lsh32K (dst : Reg) (imm : BitVec 32)
  | lsh32X (dst src : Reg)
  | rsh32K (dst : Reg) (imm : BitVec 32)
  | rsh32X (dst src : Reg)
  | mod32K (dst : Reg) (imm : BitVec 32)
  | mod32X (dst src : Reg)
  | smod32K (dst : Reg) (imm : BitVec 32)
  | smod32X (dst src : Reg)
  | xor32K (dst : Reg) (imm : BitVec 32)
  | xor32X (dst src : Reg)
  | mov32K (dst : Reg) (imm : BitVec 32)
  | mov32X (dst src : Reg)
  | arsh32K (dst : Reg) (imm : BitVec 32)
  | arsh32X (dst src : Reg)
  | neg32 (dst : Reg)
  | movsx32From8 (dst src : Reg)
  | movsx32From16 (dst src : Reg)
  /- Byte swaps (`42_byteswap.md`) -/
  | le16 (dst : Reg)
  | le32 (dst : Reg)
  | le64 (dst : Reg)
  | be16 (dst : Reg)
  | be32 (dst : Reg)
  | be64 (dst : Reg)
  | bswap16 (dst : Reg)
  | bswap32 (dst : Reg)
  | bswap64 (dst : Reg)
  /- 64-bit jumps, class `BPF_JMP` (`43_jump64.md`) -/
  | ja (offset : BitVec 16)
  | jeq64K (dst : Reg) (offset : BitVec 16) (imm : BitVec 32)
  | jeq64X (dst src : Reg) (offset : BitVec 16)
  | jgt64K (dst : Reg) (offset : BitVec 16) (imm : BitVec 32)
  | jgt64X (dst src : Reg) (offset : BitVec 16)
  | jge64K (dst : Reg) (offset : BitVec 16) (imm : BitVec 32)
  | jge64X (dst src : Reg) (offset : BitVec 16)
  | jset64K (dst : Reg) (offset : BitVec 16) (imm : BitVec 32)
  | jset64X (dst src : Reg) (offset : BitVec 16)
  | jne64K (dst : Reg) (offset : BitVec 16) (imm : BitVec 32)
  | jne64X (dst src : Reg) (offset : BitVec 16)
  | jsgt64K (dst : Reg) (offset : BitVec 16) (imm : BitVec 32)
  | jsgt64X (dst src : Reg) (offset : BitVec 16)
  | jsge64K (dst : Reg) (offset : BitVec 16) (imm : BitVec 32)
  | jsge64X (dst src : Reg) (offset : BitVec 16)
  | jlt64K (dst : Reg) (offset : BitVec 16) (imm : BitVec 32)
  | jlt64X (dst src : Reg) (offset : BitVec 16)
  | jle64K (dst : Reg) (offset : BitVec 16) (imm : BitVec 32)
  | jle64X (dst src : Reg) (offset : BitVec 16)
  | jslt64K (dst : Reg) (offset : BitVec 16) (imm : BitVec 32)
  | jslt64X (dst src : Reg) (offset : BitVec 16)
  | jsle64K (dst : Reg) (offset : BitVec 16) (imm : BitVec 32)
  | jsle64X (dst src : Reg) (offset : BitVec 16)
  /- 32-bit jumps, class `BPF_JMP32` (`44_jump32.md`) -/
  | ja32 (imm : BitVec 32)
  | jeq32K (dst : Reg) (offset : BitVec 16) (imm : BitVec 32)
  | jeq32X (dst src : Reg) (offset : BitVec 16)
  | jgt32K (dst : Reg) (offset : BitVec 16) (imm : BitVec 32)
  | jgt32X (dst src : Reg) (offset : BitVec 16)
  | jge32K (dst : Reg) (offset : BitVec 16) (imm : BitVec 32)
  | jge32X (dst src : Reg) (offset : BitVec 16)
  | jset32K (dst : Reg) (offset : BitVec 16) (imm : BitVec 32)
  | jset32X (dst src : Reg) (offset : BitVec 16)
  | jne32K (dst : Reg) (offset : BitVec 16) (imm : BitVec 32)
  | jne32X (dst src : Reg) (offset : BitVec 16)
  | jsgt32K (dst : Reg) (offset : BitVec 16) (imm : BitVec 32)
  | jsgt32X (dst src : Reg) (offset : BitVec 16)
  | jsge32K (dst : Reg) (offset : BitVec 16) (imm : BitVec 32)
  | jsge32X (dst src : Reg) (offset : BitVec 16)
  | jlt32K (dst : Reg) (offset : BitVec 16) (imm : BitVec 32)
  | jlt32X (dst src : Reg) (offset : BitVec 16)
  | jle32K (dst : Reg) (offset : BitVec 16) (imm : BitVec 32)
  | jle32X (dst src : Reg) (offset : BitVec 16)
  | jslt32K (dst : Reg) (offset : BitVec 16) (imm : BitVec 32)
  | jslt32X (dst src : Reg) (offset : BitVec 16)
  | jsle32K (dst : Reg) (offset : BitVec 16) (imm : BitVec 32)
  | jsle32X (dst src : Reg) (offset : BitVec 16)
  /- Calls and exit (`45_call_exit.md`) -/
  | callHelper (imm : BitVec 32)
  | callLocal (offset : BitVec 16) (imm : BitVec 32)
  | callBtf (imm : BitVec 32)
  | exit
  /- Loads and stores (`46_load_store.md`) -/
  | ldxb (dst src : Reg) (offset : BitVec 16)
  | ldxh (dst src : Reg) (offset : BitVec 16)
  | ldxw (dst src : Reg) (offset : BitVec 16)
  | ldxdw (dst src : Reg) (offset : BitVec 16)
  | ldxsb (dst src : Reg) (offset : BitVec 16)
  | ldxsh (dst src : Reg) (offset : BitVec 16)
  | ldxsw (dst src : Reg) (offset : BitVec 16)
  | stb (dst : Reg) (offset : BitVec 16) (imm : BitVec 32)
  | sth (dst : Reg) (offset : BitVec 16) (imm : BitVec 32)
  | stw (dst : Reg) (offset : BitVec 16) (imm : BitVec 32)
  | stdw (dst : Reg) (offset : BitVec 16) (imm : BitVec 32)
  | stxb (dst src : Reg) (offset : BitVec 16)
  | stxh (dst src : Reg) (offset : BitVec 16)
  | stxw (dst src : Reg) (offset : BitVec 16)
  | stxdw (dst src : Reg) (offset : BitVec 16)
  /- Atomic operations (`47_atomic.md`) -/
  | atomicAdd32 (dst src : Reg) (offset : BitVec 16)
  | atomicFetchAdd32 (dst src : Reg) (offset : BitVec 16)
  | atomicOr32 (dst src : Reg) (offset : BitVec 16)
  | atomicFetchOr32 (dst src : Reg) (offset : BitVec 16)
  | atomicAnd32 (dst src : Reg) (offset : BitVec 16)
  | atomicFetchAnd32 (dst src : Reg) (offset : BitVec 16)
  | atomicXor32 (dst src : Reg) (offset : BitVec 16)
  | atomicFetchXor32 (dst src : Reg) (offset : BitVec 16)
  | atomicXchg32 (dst src : Reg) (offset : BitVec 16)
  | atomicCmpxchg32 (dst src : Reg) (offset : BitVec 16)
  | atomicAdd64 (dst src : Reg) (offset : BitVec 16)
  | atomicFetchAdd64 (dst src : Reg) (offset : BitVec 16)
  | atomicOr64 (dst src : Reg) (offset : BitVec 16)
  | atomicFetchOr64 (dst src : Reg) (offset : BitVec 16)
  | atomicAnd64 (dst src : Reg) (offset : BitVec 16)
  | atomicFetchAnd64 (dst src : Reg) (offset : BitVec 16)
  | atomicXor64 (dst src : Reg) (offset : BitVec 16)
  | atomicFetchXor64 (dst src : Reg) (offset : BitVec 16)
  | atomicXchg64 (dst src : Reg) (offset : BitVec 16)
  | atomicCmpxchg64 (dst src : Reg) (offset : BitVec 16)
  /- Wide loads of 64-bit immediates (`48_imm64.md`) -/
  | lddw (dst : Reg) (imm nextImm : BitVec 32)
  | ldMapFd (dst : Reg) (imm : BitVec 32)
  | ldMapValFd (dst : Reg) (imm nextImm : BitVec 32)
  | ldVarAddr (dst : Reg) (imm : BitVec 32)
  | ldCodeAddr (dst : Reg) (imm : BitVec 32)
  | ldMapIdx (dst : Reg) (imm : BitVec 32)
  | ldMapValIdx (dst : Reg) (imm nextImm : BitVec 32)
  /- Legacy packet access (`49_legacy_packet.md`) -/
  | ldAbs (size : MemSize) (dst src : BitVec 4) (offset : BitVec 16) (imm : BitVec 32)
  | ldInd (size : MemSize) (dst src : BitVec 4) (offset : BitVec 16) (imm : BitVec 32)
deriving DecidableEq, Repr

end Sys2Proof
end

