-- ==== Sys2Proof/WellFormed.lean ====
section
/-! DEFINITION. Well-formed instructions: the checks that the constructors of `Instr` do not make by their types. -/

namespace Sys2Proof

/-- R10 is never written by a field (`10_state.md` R32). -/
def Reg.writable : Reg → Bool
  | .r10 => false
  | _ => true

/-- The field of `CALL_LOCAL` that does not hold the displacement is 0 (`30_encoding.md` R153). -/
def callFieldsOk (disp : LocalCallDisp) (offset : BitVec 16) (imm : BitVec 32) : Bool :=
  match disp with
  | .offset => decide (imm = 0)
  | .imm => decide (offset = 0)

/-- The two legacy rows take the size of their opcode, and every field is free (`49_legacy_packet.md` R500): nothing
is to be checked. Every other check is R32's or R153's. -/
def Instr.wf (disp : LocalCallDisp) : Instr → Bool
  | .add64K dst _ => dst.writable
  | .add64X dst _ => dst.writable
  | .sub64K dst _ => dst.writable
  | .sub64X dst _ => dst.writable
  | .mul64K dst _ => dst.writable
  | .mul64X dst _ => dst.writable
  | .div64K dst _ => dst.writable
  | .div64X dst _ => dst.writable
  | .sdiv64K dst _ => dst.writable
  | .sdiv64X dst _ => dst.writable
  | .or64K dst _ => dst.writable
  | .or64X dst _ => dst.writable
  | .and64K dst _ => dst.writable
  | .and64X dst _ => dst.writable
  | .lsh64K dst _ => dst.writable
  | .lsh64X dst _ => dst.writable
  | .rsh64K dst _ => dst.writable
  | .rsh64X dst _ => dst.writable
  | .mod64K dst _ => dst.writable
  | .mod64X dst _ => dst.writable
  | .smod64K dst _ => dst.writable
  | .smod64X dst _ => dst.writable
  | .xor64K dst _ => dst.writable
  | .xor64X dst _ => dst.writable
  | .mov64K dst _ => dst.writable
  | .mov64X dst _ => dst.writable
  | .arsh64K dst _ => dst.writable
  | .arsh64X dst _ => dst.writable
  | .neg64 dst => dst.writable
  | .movsx64From8 dst _ => dst.writable
  | .movsx64From16 dst _ => dst.writable
  | .movsx64From32 dst _ => dst.writable
  | .add32K dst _ => dst.writable
  | .add32X dst _ => dst.writable
  | .sub32K dst _ => dst.writable
  | .sub32X dst _ => dst.writable
  | .mul32K dst _ => dst.writable
  | .mul32X dst _ => dst.writable
  | .div32K dst _ => dst.writable
  | .div32X dst _ => dst.writable
  | .sdiv32K dst _ => dst.writable
  | .sdiv32X dst _ => dst.writable
  | .or32K dst _ => dst.writable
  | .or32X dst _ => dst.writable
  | .and32K dst _ => dst.writable
  | .and32X dst _ => dst.writable
  | .lsh32K dst _ => dst.writable
  | .lsh32X dst _ => dst.writable
  | .rsh32K dst _ => dst.writable
  | .rsh32X dst _ => dst.writable
  | .mod32K dst _ => dst.writable
  | .mod32X dst _ => dst.writable
  | .smod32K dst _ => dst.writable
  | .smod32X dst _ => dst.writable
  | .xor32K dst _ => dst.writable
  | .xor32X dst _ => dst.writable
  | .mov32K dst _ => dst.writable
  | .mov32X dst _ => dst.writable
  | .arsh32K dst _ => dst.writable
  | .arsh32X dst _ => dst.writable
  | .neg32 dst => dst.writable
  | .movsx32From8 dst _ => dst.writable
  | .movsx32From16 dst _ => dst.writable
  | .le16 dst => dst.writable
  | .le32 dst => dst.writable
  | .le64 dst => dst.writable
  | .be16 dst => dst.writable
  | .be32 dst => dst.writable
  | .be64 dst => dst.writable
  | .bswap16 dst => dst.writable
  | .bswap32 dst => dst.writable
  | .bswap64 dst => dst.writable
  | .ja _ => true
  | .jeq64K _ _ _ => true
  | .jeq64X _ _ _ => true
  | .jgt64K _ _ _ => true
  | .jgt64X _ _ _ => true
  | .jge64K _ _ _ => true
  | .jge64X _ _ _ => true
  | .jset64K _ _ _ => true
  | .jset64X _ _ _ => true
  | .jne64K _ _ _ => true
  | .jne64X _ _ _ => true
  | .jsgt64K _ _ _ => true
  | .jsgt64X _ _ _ => true
  | .jsge64K _ _ _ => true
  | .jsge64X _ _ _ => true
  | .jlt64K _ _ _ => true
  | .jlt64X _ _ _ => true
  | .jle64K _ _ _ => true
  | .jle64X _ _ _ => true
  | .jslt64K _ _ _ => true
  | .jslt64X _ _ _ => true
  | .jsle64K _ _ _ => true
  | .jsle64X _ _ _ => true
  | .ja32 _ => true
  | .jeq32K _ _ _ => true
  | .jeq32X _ _ _ => true
  | .jgt32K _ _ _ => true
  | .jgt32X _ _ _ => true
  | .jge32K _ _ _ => true
  | .jge32X _ _ _ => true
  | .jset32K _ _ _ => true
  | .jset32X _ _ _ => true
  | .jne32K _ _ _ => true
  | .jne32X _ _ _ => true
  | .jsgt32K _ _ _ => true
  | .jsgt32X _ _ _ => true
  | .jsge32K _ _ _ => true
  | .jsge32X _ _ _ => true
  | .jlt32K _ _ _ => true
  | .jlt32X _ _ _ => true
  | .jle32K _ _ _ => true
  | .jle32X _ _ _ => true
  | .jslt32K _ _ _ => true
  | .jslt32X _ _ _ => true
  | .jsle32K _ _ _ => true
  | .jsle32X _ _ _ => true
  | .callHelper _ => true
  | .callLocal offset imm => callFieldsOk disp offset imm
  | .callBtf _ => true
  | .exit => true
  | .ldxb dst _ _ => dst.writable
  | .ldxh dst _ _ => dst.writable
  | .ldxw dst _ _ => dst.writable
  | .ldxdw dst _ _ => dst.writable
  | .ldxsb dst _ _ => dst.writable
  | .ldxsh dst _ _ => dst.writable
  | .ldxsw dst _ _ => dst.writable
  | .stb _ _ _ => true
  | .sth _ _ _ => true
  | .stw _ _ _ => true
  | .stdw _ _ _ => true
  | .stxb _ _ _ => true
  | .stxh _ _ _ => true
  | .stxw _ _ _ => true
  | .stxdw _ _ _ => true
  | .atomicAdd32 _ _ _ => true
  | .atomicFetchAdd32 _ src _ => src.writable
  | .atomicOr32 _ _ _ => true
  | .atomicFetchOr32 _ src _ => src.writable
  | .atomicAnd32 _ _ _ => true
  | .atomicFetchAnd32 _ src _ => src.writable
  | .atomicXor32 _ _ _ => true
  | .atomicFetchXor32 _ src _ => src.writable
  | .atomicXchg32 _ src _ => src.writable
  | .atomicCmpxchg32 _ _ _ => true
  | .atomicAdd64 _ _ _ => true
  | .atomicFetchAdd64 _ src _ => src.writable
  | .atomicOr64 _ _ _ => true
  | .atomicFetchOr64 _ src _ => src.writable
  | .atomicAnd64 _ _ _ => true
  | .atomicFetchAnd64 _ src _ => src.writable
  | .atomicXor64 _ _ _ => true
  | .atomicFetchXor64 _ src _ => src.writable
  | .atomicXchg64 _ src _ => src.writable
  | .atomicCmpxchg64 _ _ _ => true
  | .lddw dst _ _ => dst.writable
  | .ldMapFd dst _ => dst.writable
  | .ldMapValFd dst _ _ => dst.writable
  | .ldVarAddr dst _ => dst.writable
  | .ldCodeAddr dst _ => dst.writable
  | .ldMapIdx dst _ => dst.writable
  | .ldMapValIdx dst _ _ => dst.writable
  | .ldAbs _ _ _ _ _ => true
  | .ldInd _ _ _ _ _ => true

end Sys2Proof
end

