-- ==== Sys2Proof/Decode.lean ====
section
/-! DEFINITION. The decoder, total on any slots and refusing by name, and the encoder, both from the encoding tables of
`30_encoding.md`. -/

namespace Sys2Proof

/-! ### Slots and fields -/

/-- The five numbers of a slot (`30_encoding.md` R111, R112). -/
def Slot.fields (e : Endian) (s : Slot) : Fields :=
  match e with
  | .little =>
    { opcode := s.b0, dst := s.b1.extractLsb' 0 4, src := s.b1.extractLsb' 4 4, offset := s.b3 ++ s.b2,
      imm := s.b7 ++ s.b6 ++ s.b5 ++ s.b4 }
  | .big =>
    { opcode := s.b0, dst := s.b1.extractLsb' 4 4, src := s.b1.extractLsb' 0 4, offset := s.b2 ++ s.b3,
      imm := s.b4 ++ s.b5 ++ s.b6 ++ s.b7 }

/-- The slot that holds five given numbers (`30_encoding.md` R111). -/
def Fields.slot (e : Endian) (f : Fields) : Slot :=
  match e with
  | .little =>
    { b0 := f.opcode, b1 := f.src ++ f.dst, b2 := f.offset.extractLsb' 0 8, b3 := f.offset.extractLsb' 8 8,
      b4 := f.imm.extractLsb' 0 8, b5 := f.imm.extractLsb' 8 8, b6 := f.imm.extractLsb' 16 8,
      b7 := f.imm.extractLsb' 24 8 }
  | .big =>
    { b0 := f.opcode, b1 := f.dst ++ f.src, b2 := f.offset.extractLsb' 8 8, b3 := f.offset.extractLsb' 0 8,
      b4 := f.imm.extractLsb' 24 8, b5 := f.imm.extractLsb' 16 8, b6 := f.imm.extractLsb' 8 8,
      b7 := f.imm.extractLsb' 0 8 }

/-- The logical instruction word W of `30_encoding.md` R112. -/
def Fields.word (f : Fields) : BitVec 64 := f.imm ++ f.offset ++ f.src ++ f.dst ++ f.opcode

/-- The five numbers of a logical word: `Fields.word` read backwards. -/
def Fields.ofWord (w : BitVec 64) : Fields :=
  { opcode := w.extractLsb' 0 8, dst := w.extractLsb' 8 4, src := w.extractLsb' 12 4, offset := w.extractLsb' 16 16,
    imm := w.extractLsb' 32 32 }

/-- The number of a register in a 4-bit field (`30_encoding.md` R142). -/
def Reg.number : Reg → BitVec 4
  | .r0 => 0 | .r1 => 1 | .r2 => 2 | .r3 => 3 | .r4 => 4 | .r5 => 5
  | .r6 => 6 | .r7 => 7 | .r8 => 8 | .r9 => 9 | .r10 => 10

/-- The register a 4-bit field names; 11 to 15 name none (`30_encoding.md` R113, R150). -/
def Reg.ofNumber (n : BitVec 4) : Option Reg :=
  match n.toNat with
  | 0 => some .r0 | 1 => some .r1 | 2 => some .r2 | 3 => some .r3 | 4 => some .r4 | 5 => some .r5
  | 6 => some .r6 | 7 => some .r7 | 8 => some .r8 | 9 => some .r9 | 10 => some .r10
  | _ => none

/-! ### Refusals of the decoder -/

/-- Why a slot, or a pair of slots, is no instruction (`30_encoding.md` R150 to R154). The machine raises
`IllegalInstruction` for every one of them; the name is for the reader and records nothing in the machine. -/
inductive Illegal where
  /-- There is no slot to decode. -/
  | noSlot
  /-- R151: the opcode byte is one of the 129 that the table gives nothing. -/
  | undefinedOpcode
  /-- R150: a register field holds 11 to 15. -/
  | noSuchRegister
  /-- R150: the field of a written register holds 10. -/
  | framePointerWritten
  /-- R153: an unused `dst_reg`, `src_reg`, `offset` or `imm` field is not zero. -/
  | dstNotZero | srcNotZero | offsetNotZero | immNotZero
  /-- R154: a field that selects an operation holds a value without meaning. -/
  | offsetSelector | srcSelector | immSelector
  /-- R152 (a), (b), (c): an ill-formed wide instruction. -/
  | noSecondSlot | secondSlotNotZero | nextImmNotZero
deriving DecidableEq, Repr

/-! ### Field checks -/

/-- A register field that is only read: 0 to 10. -/
def readRegister (n : BitVec 4) : Except Illegal Reg :=
  match Reg.ofNumber n with
  | some r => .ok r
  | none => .error .noSuchRegister

/-- The field of a written register: 0 to 9 (`30_encoding.md` R150). -/
def writtenRegister (n : BitVec 4) : Except Illegal Reg :=
  match Reg.ofNumber n with
  | some r => if r.writable then .ok r else .error .framePointerWritten
  | none => .error .noSuchRegister

/-- One check of R153 or R154. -/
def require (ok : Bool) (why : Illegal) : Except Illegal Unit := if ok then .ok () else .error why

def Fields.dstZero (f : Fields) : Except Illegal Unit := require (f.dst == 0) .dstNotZero
def Fields.srcZero (f : Fields) : Except Illegal Unit := require (f.src == 0) .srcNotZero
def Fields.offsetZero (f : Fields) : Except Illegal Unit := require (f.offset == 0) .offsetNotZero
def Fields.immZero (f : Fields) : Except Illegal Unit := require (f.imm == 0) .immNotZero

/-! ### The rows of `30_encoding.md` R153, one shape each -/

/-- Arithmetic with `BPF_K`; the caller has looked at `offset`. -/
def Fields.arithImm (f : Fields) (mk : Reg → BitVec 32 → Instr) : Except Illegal Instr := do
  let dst ← writtenRegister f.dst
  f.srcZero
  return mk dst f.imm

/-- Arithmetic with `BPF_X`; the caller has looked at `offset`. -/
def Fields.arithReg (f : Fields) (mk : Reg → Reg → Instr) : Except Illegal Instr := do
  let dst ← writtenRegister f.dst
  let src ← readRegister f.src
  f.immZero
  return mk dst src

/-- Arithmetic whose `offset` must be 0 (R154 (f)). -/
def Fields.plainImm (f : Fields) (mk : Reg → BitVec 32 → Instr) : Except Illegal Instr := do
  f.offsetZero
  f.arithImm mk

def Fields.plainReg (f : Fields) (mk : Reg → Reg → Instr) : Except Illegal Instr := do
  f.offsetZero
  f.arithReg mk

/-- `BPF_DIV` and `BPF_MOD`: `offset` 0 selects the unsigned operation, 1 the signed one (`30_encoding.md` R123). -/
def Fields.signedImm (f : Fields) (unsigned signed : Reg → BitVec 32 → Instr) : Except Illegal Instr :=
  match f.offset.toNat with
  | 0 => f.arithImm unsigned
  | 1 => f.arithImm signed
  | _ => .error .offsetSelector

def Fields.signedReg (f : Fields) (unsigned signed : Reg → Reg → Instr) : Except Illegal Instr :=
  match f.offset.toNat with
  | 0 => f.arithReg unsigned
  | 1 => f.arithReg signed
  | _ => .error .offsetSelector

/-- `BPF_MOV` with `BPF_X`, class `BPF_ALU64`: `offset` 0, 8, 16 or 32 (R154 (e)). -/
def Fields.move64 (f : Fields) : Except Illegal Instr :=
  match f.offset.toNat with
  | 0 => f.arithReg .mov64X
  | 8 => f.arithReg .movsx64From8
  | 16 => f.arithReg .movsx64From16
  | 32 => f.arithReg .movsx64From32
  | _ => .error .offsetSelector

/-- `BPF_MOV` with `BPF_X`, class `BPF_ALU`: `offset` 0, 8 or 16 (R154 (e)). -/
def Fields.move32 (f : Fields) : Except Illegal Instr :=
  match f.offset.toNat with
  | 0 => f.arithReg .mov32X
  | 8 => f.arithReg .movsx32From8
  | 16 => f.arithReg .movsx32From16
  | _ => .error .offsetSelector

/-- An operation on the destination alone; the caller has looked at `imm`. -/
def Fields.dstOnly (f : Fields) (mk : Reg → Instr) : Except Illegal Instr := do
  let dst ← writtenRegister f.dst
  f.srcZero
  f.offsetZero
  return mk dst

/-- `BPF_NEG`: `imm` is 0. -/
def Fields.negate (f : Fields) (mk : Reg → Instr) : Except Illegal Instr := do
  f.immZero
  f.dstOnly mk

/-- `BPF_END`: `imm` selects the width (`42_byteswap.md` R301). -/
def Fields.swap (f : Fields) (mk16 mk32 mk64 : Reg → Instr) : Except Illegal Instr :=
  match f.imm.toNat with
  | 16 => f.dstOnly mk16
  | 32 => f.dstOnly mk32
  | 64 => f.dstOnly mk64
  | _ => .error .immSelector

/-- `JA`: the displacement is `offset`. -/
def Fields.jumpAlways (f : Fields) : Except Illegal Instr := do
  f.dstZero
  f.srcZero
  f.immZero
  return .ja f.offset

/-- `JA32`: the displacement is `imm`. -/
def Fields.jumpAlways32 (f : Fields) : Except Illegal Instr := do
  f.dstZero
  f.srcZero
  f.offsetZero
  return .ja32 f.imm

/-- A conditional jump with `BPF_K`. -/
def Fields.jumpImm (f : Fields) (mk : Reg → BitVec 16 → BitVec 32 → Instr) : Except Illegal Instr := do
  let dst ← readRegister f.dst
  f.srcZero
  return mk dst f.offset f.imm

/-- A conditional jump with `BPF_X`, and a store of a register: both registers are only read and `imm` is 0. -/
def Fields.twoReads (f : Fields) (mk : Reg → Reg → BitVec 16 → Instr) : Except Illegal Instr := do
  let dst ← readRegister f.dst
  let src ← readRegister f.src
  f.immZero
  return mk dst src f.offset

/-- `BPF_CALL`: `src_reg` selects the kind of call (`30_encoding.md` R135). -/
def Fields.call (disp : LocalCallDisp) (f : Fields) : Except Illegal Instr :=
  match f.src.toNat with
  | 0 => do f.dstZero; f.offsetZero; return .callHelper f.imm
  | 1 => do
    f.dstZero
    require (callFieldsOk disp f.offset f.imm) (match disp with | .offset => .immNotZero | .imm => .offsetNotZero)
    return .callLocal f.offset f.imm
  | 2 => do f.dstZero; f.offsetZero; return .callBtf f.imm
  | _ => .error .srcSelector

/-- `EXIT`: every field is 0. -/
def Fields.exit (f : Fields) : Except Illegal Instr := do
  f.dstZero
  f.srcZero
  f.offsetZero
  f.immZero
  return .exit

/-- A load: `dst_reg` is written, `src_reg` is the base, `imm` is 0. -/
def Fields.load (f : Fields) (mk : Reg → Reg → BitVec 16 → Instr) : Except Illegal Instr := do
  let dst ← writtenRegister f.dst
  let src ← readRegister f.src
  f.immZero
  return mk dst src f.offset

/-- A store of the immediate. -/
def Fields.storeImm (f : Fields) (mk : Reg → BitVec 16 → BitVec 32 → Instr) : Except Illegal Instr := do
  let dst ← readRegister f.dst
  f.srcZero
  return mk dst f.offset f.imm

/-- An atomic operation that does not write `src_reg`; the caller has looked at `imm` (`47_atomic.md` R441). -/
def Fields.atomicKeep (f : Fields) (mk : Reg → Reg → BitVec 16 → Instr) : Except Illegal Instr := do
  let dst ← readRegister f.dst
  let src ← readRegister f.src
  return mk dst src f.offset

/-- An atomic operation that writes `src_reg`. -/
def Fields.atomicFetch (f : Fields) (mk : Reg → Reg → BitVec 16 → Instr) : Except Illegal Instr := do
  let dst ← readRegister f.dst
  let src ← writtenRegister f.src
  return mk dst src f.offset

/-- The 32-bit atomic operations: `imm` is one of ten selectors (`30_encoding.md` R134). -/
def Fields.atomic32 (f : Fields) : Except Illegal Instr :=
  match f.imm.toNat with
  | 0x00 => f.atomicKeep .atomicAdd32
  | 0x01 => f.atomicFetch .atomicFetchAdd32
  | 0x40 => f.atomicKeep .atomicOr32
  | 0x41 => f.atomicFetch .atomicFetchOr32
  | 0x50 => f.atomicKeep .atomicAnd32
  | 0x51 => f.atomicFetch .atomicFetchAnd32
  | 0xa0 => f.atomicKeep .atomicXor32
  | 0xa1 => f.atomicFetch .atomicFetchXor32
  | 0xe1 => f.atomicFetch .atomicXchg32
  | 0xf1 => f.atomicKeep .atomicCmpxchg32
  | _ => .error .immSelector

/-- The 64-bit atomic operations: `imm` is one of ten selectors (`30_encoding.md` R134). -/
def Fields.atomic64 (f : Fields) : Except Illegal Instr :=
  match f.imm.toNat with
  | 0x00 => f.atomicKeep .atomicAdd64
  | 0x01 => f.atomicFetch .atomicFetchAdd64
  | 0x40 => f.atomicKeep .atomicOr64
  | 0x41 => f.atomicFetch .atomicFetchOr64
  | 0x50 => f.atomicKeep .atomicAnd64
  | 0x51 => f.atomicFetch .atomicFetchAnd64
  | 0xa0 => f.atomicKeep .atomicXor64
  | 0xa1 => f.atomicFetch .atomicFetchXor64
  | 0xe1 => f.atomicFetch .atomicXchg64
  | 0xf1 => f.atomicKeep .atomicCmpxchg64
  | _ => .error .immSelector

/-- The second slot of a wide instruction: its first 32 bits are zero, and the answer is `next_imm`
(`30_encoding.md` R116, R152). -/
def nextImmOf (next : Option Fields) : Except Illegal (BitVec 32) :=
  match next with
  | none => .error .noSecondSlot
  | some g => do
    require (g.opcode == 0 && g.dst == 0 && g.src == 0 && g.offset == 0) .secondSlotNotZero
    return g.imm

/-- A wide instruction that uses `next_imm`. -/
def Fields.wide (f : Fields) (next : Option Fields) (mk : Reg → BitVec 32 → BitVec 32 → Instr) :
    Except Illegal Instr := do
  let dst ← writtenRegister f.dst
  f.offsetZero
  let nextImm ← nextImmOf next
  return mk dst f.imm nextImm

/-- A wide instruction whose `next_imm` must be 0 (R152 (c)). -/
def Fields.wideZero (f : Fields) (next : Option Fields) (mk : Reg → BitVec 32 → Instr) : Except Illegal Instr := do
  let dst ← writtenRegister f.dst
  f.offsetZero
  let nextImm ← nextImmOf next
  require (nextImm == 0) .nextImmNotZero
  return mk dst f.imm

/-- Opcode 0x18: `src_reg` holds the subtype (`48_imm64.md` R480). -/
def Fields.imm64 (f : Fields) (next : Option Fields) : Except Illegal Instr :=
  match f.src.toNat with
  | 0 => f.wide next .lddw
  | 1 => f.wideZero next .ldMapFd
  | 2 => f.wide next .ldMapValFd
  | 3 => f.wideZero next .ldVarAddr
  | 4 => f.wideZero next .ldCodeAddr
  | 5 => f.wideZero next .ldMapIdx
  | 6 => f.wide next .ldMapValIdx
  | _ => .error .srcSelector

/-- A legacy row: every field is free (`49_legacy_packet.md` R500). -/
def Fields.legacy (f : Fields) (mk : MemSize → BitVec 4 → BitVec 4 → BitVec 16 → BitVec 32 → Instr) (size : MemSize) :
    Except Illegal Instr :=
  .ok (mk size f.dst f.src f.offset f.imm)

/-! ### The opcode byte, one function per class, one arm per opcode of `30_encoding.md` R151 -/

/-- Class `BPF_LD`. -/
def Fields.decodeLd (f : Fields) (next : Option Fields) : Except Illegal Instr :=
  match f.opcode.toNat with
  | 0x18 => f.imm64 next
  | 0x20 => f.legacy .ldAbs .w
  | 0x28 => f.legacy .ldAbs .h
  | 0x30 => f.legacy .ldAbs .b
  | 0x38 => f.legacy .ldAbs .dw
  | 0x40 => f.legacy .ldInd .w
  | 0x48 => f.legacy .ldInd .h
  | 0x50 => f.legacy .ldInd .b
  | 0x58 => f.legacy .ldInd .dw
  | _ => .error .undefinedOpcode

/-- Class `BPF_LDX`. -/
def Fields.decodeLdx (f : Fields) : Except Illegal Instr :=
  match f.opcode.toNat with
  | 0x61 => f.load .ldxw
  | 0x69 => f.load .ldxh
  | 0x71 => f.load .ldxb
  | 0x79 => f.load .ldxdw
  | 0x81 => f.load .ldxsw
  | 0x89 => f.load .ldxsh
  | 0x91 => f.load .ldxsb
  | _ => .error .undefinedOpcode

/-- Class `BPF_ST`. -/
def Fields.decodeSt (f : Fields) : Except Illegal Instr :=
  match f.opcode.toNat with
  | 0x62 => f.storeImm .stw
  | 0x6a => f.storeImm .sth
  | 0x72 => f.storeImm .stb
  | 0x7a => f.storeImm .stdw
  | _ => .error .undefinedOpcode

/-- Class `BPF_STX`. -/
def Fields.decodeStx (f : Fields) : Except Illegal Instr :=
  match f.opcode.toNat with
  | 0x63 => f.twoReads .stxw
  | 0x6b => f.twoReads .stxh
  | 0x73 => f.twoReads .stxb
  | 0x7b => f.twoReads .stxdw
  | 0xc3 => f.atomic32
  | 0xdb => f.atomic64
  | _ => .error .undefinedOpcode

/-- Class `BPF_ALU`. -/
def Fields.decodeAlu (f : Fields) : Except Illegal Instr :=
  match f.opcode.toNat with
  | 0x04 => f.plainImm .add32K
  | 0x0c => f.plainReg .add32X
  | 0x14 => f.plainImm .sub32K
  | 0x1c => f.plainReg .sub32X
  | 0x24 => f.plainImm .mul32K
  | 0x2c => f.plainReg .mul32X
  | 0x34 => f.signedImm .div32K .sdiv32K
  | 0x3c => f.signedReg .div32X .sdiv32X
  | 0x44 => f.plainImm .or32K
  | 0x4c => f.plainReg .or32X
  | 0x54 => f.plainImm .and32K
  | 0x5c => f.plainReg .and32X
  | 0x64 => f.plainImm .lsh32K
  | 0x6c => f.plainReg .lsh32X
  | 0x74 => f.plainImm .rsh32K
  | 0x7c => f.plainReg .rsh32X
  | 0x84 => f.negate .neg32
  | 0x94 => f.signedImm .mod32K .smod32K
  | 0x9c => f.signedReg .mod32X .smod32X
  | 0xa4 => f.plainImm .xor32K
  | 0xac => f.plainReg .xor32X
  | 0xb4 => f.plainImm .mov32K
  | 0xbc => f.move32
  | 0xc4 => f.plainImm .arsh32K
  | 0xcc => f.plainReg .arsh32X
  | 0xd4 => f.swap .le16 .le32 .le64
  | 0xdc => f.swap .be16 .be32 .be64
  | _ => .error .undefinedOpcode

/-- Class `BPF_JMP`. -/
def Fields.decodeJmp (disp : LocalCallDisp) (f : Fields) : Except Illegal Instr :=
  match f.opcode.toNat with
  | 0x05 => f.jumpAlways
  | 0x15 => f.jumpImm .jeq64K
  | 0x1d => f.twoReads .jeq64X
  | 0x25 => f.jumpImm .jgt64K
  | 0x2d => f.twoReads .jgt64X
  | 0x35 => f.jumpImm .jge64K
  | 0x3d => f.twoReads .jge64X
  | 0x45 => f.jumpImm .jset64K
  | 0x4d => f.twoReads .jset64X
  | 0x55 => f.jumpImm .jne64K
  | 0x5d => f.twoReads .jne64X
  | 0x65 => f.jumpImm .jsgt64K
  | 0x6d => f.twoReads .jsgt64X
  | 0x75 => f.jumpImm .jsge64K
  | 0x7d => f.twoReads .jsge64X
  | 0x85 => f.call disp
  | 0x95 => f.exit
  | 0xa5 => f.jumpImm .jlt64K
  | 0xad => f.twoReads .jlt64X
  | 0xb5 => f.jumpImm .jle64K
  | 0xbd => f.twoReads .jle64X
  | 0xc5 => f.jumpImm .jslt64K
  | 0xcd => f.twoReads .jslt64X
  | 0xd5 => f.jumpImm .jsle64K
  | 0xdd => f.twoReads .jsle64X
  | _ => .error .undefinedOpcode

/-- Class `BPF_JMP32`. -/
def Fields.decodeJmp32 (f : Fields) : Except Illegal Instr :=
  match f.opcode.toNat with
  | 0x06 => f.jumpAlways32
  | 0x16 => f.jumpImm .jeq32K
  | 0x1e => f.twoReads .jeq32X
  | 0x26 => f.jumpImm .jgt32K
  | 0x2e => f.twoReads .jgt32X
  | 0x36 => f.jumpImm .jge32K
  | 0x3e => f.twoReads .jge32X
  | 0x46 => f.jumpImm .jset32K
  | 0x4e => f.twoReads .jset32X
  | 0x56 => f.jumpImm .jne32K
  | 0x5e => f.twoReads .jne32X
  | 0x66 => f.jumpImm .jsgt32K
  | 0x6e => f.twoReads .jsgt32X
  | 0x76 => f.jumpImm .jsge32K
  | 0x7e => f.twoReads .jsge32X
  | 0xa6 => f.jumpImm .jlt32K
  | 0xae => f.twoReads .jlt32X
  | 0xb6 => f.jumpImm .jle32K
  | 0xbe => f.twoReads .jle32X
  | 0xc6 => f.jumpImm .jslt32K
  | 0xce => f.twoReads .jslt32X
  | 0xd6 => f.jumpImm .jsle32K
  | 0xde => f.twoReads .jsle32X
  | _ => .error .undefinedOpcode

/-- Class `BPF_ALU64`. -/
def Fields.decodeAlu64 (f : Fields) : Except Illegal Instr :=
  match f.opcode.toNat with
  | 0x07 => f.plainImm .add64K
  | 0x0f => f.plainReg .add64X
  | 0x17 => f.plainImm .sub64K
  | 0x1f => f.plainReg .sub64X
  | 0x27 => f.plainImm .mul64K
  | 0x2f => f.plainReg .mul64X
  | 0x37 => f.signedImm .div64K .sdiv64K
  | 0x3f => f.signedReg .div64X .sdiv64X
  | 0x47 => f.plainImm .or64K
  | 0x4f => f.plainReg .or64X
  | 0x57 => f.plainImm .and64K
  | 0x5f => f.plainReg .and64X
  | 0x67 => f.plainImm .lsh64K
  | 0x6f => f.plainReg .lsh64X
  | 0x77 => f.plainImm .rsh64K
  | 0x7f => f.plainReg .rsh64X
  | 0x87 => f.negate .neg64
  | 0x97 => f.signedImm .mod64K .smod64K
  | 0x9f => f.signedReg .mod64X .smod64X
  | 0xa7 => f.plainImm .xor64K
  | 0xaf => f.plainReg .xor64X
  | 0xb7 => f.plainImm .mov64K
  | 0xbf => f.move64
  | 0xc7 => f.plainImm .arsh64K
  | 0xcf => f.plainReg .arsh64X
  | 0xd7 => f.swap .bswap16 .bswap32 .bswap64
  | _ => .error .undefinedOpcode

/-- Decoding a slot and, for opcode 0x18, the slot after it: the class is the three low bits of the opcode
(`30_encoding.md` R120), and every pair of slots is one row of the table or is refused (R150). -/
def decodeFields (disp : LocalCallDisp) (f : Fields) (next : Option Fields) : Except Illegal Instr :=
  match f.opcode.toNat % 8 with
  | 0 => f.decodeLd next
  | 1 => f.decodeLdx
  | 2 => f.decodeSt
  | 3 => f.decodeStx
  | 4 => f.decodeAlu
  | 5 => f.decodeJmp disp
  | 6 => f.decodeJmp32
  | _ => f.decodeAlu64

/-- Decoding the slots from pc on. Only an instruction of opcode 0x18 looks at the second one (R117). -/
def decode (e : Endian) (disp : LocalCallDisp) (slots : List Slot) : Except Illegal Instr :=
  match slots with
  | [] => .error .noSlot
  | s :: rest => decodeFields disp (s.fields e) (rest.head?.map (Slot.fields e))

/-! ### The encoder -/

/-- The size bits of a load or store opcode (`30_encoding.md` R131). -/
def MemSize.bits : MemSize → BitVec 8
  | .w => 0x00 | .h => 0x08 | .b => 0x10 | .dw => 0x18

/-- The fields of an instruction's first or only slot, from its row of `opcode_table.json`. -/
def Instr.fields : Instr → Fields
  | .add64K dst imm => ⟨0x07, dst.number, 0, 0, imm⟩
  | .add64X dst src => ⟨0x0f, dst.number, src.number, 0, 0⟩
  | .sub64K dst imm => ⟨0x17, dst.number, 0, 0, imm⟩
  | .sub64X dst src => ⟨0x1f, dst.number, src.number, 0, 0⟩
  | .mul64K dst imm => ⟨0x27, dst.number, 0, 0, imm⟩
  | .mul64X dst src => ⟨0x2f, dst.number, src.number, 0, 0⟩
  | .div64K dst imm => ⟨0x37, dst.number, 0, 0, imm⟩
  | .div64X dst src => ⟨0x3f, dst.number, src.number, 0, 0⟩
  | .sdiv64K dst imm => ⟨0x37, dst.number, 0, 1, imm⟩
  | .sdiv64X dst src => ⟨0x3f, dst.number, src.number, 1, 0⟩
  | .or64K dst imm => ⟨0x47, dst.number, 0, 0, imm⟩
  | .or64X dst src => ⟨0x4f, dst.number, src.number, 0, 0⟩
  | .and64K dst imm => ⟨0x57, dst.number, 0, 0, imm⟩
  | .and64X dst src => ⟨0x5f, dst.number, src.number, 0, 0⟩
  | .lsh64K dst imm => ⟨0x67, dst.number, 0, 0, imm⟩
  | .lsh64X dst src => ⟨0x6f, dst.number, src.number, 0, 0⟩
  | .rsh64K dst imm => ⟨0x77, dst.number, 0, 0, imm⟩
  | .rsh64X dst src => ⟨0x7f, dst.number, src.number, 0, 0⟩
  | .mod64K dst imm => ⟨0x97, dst.number, 0, 0, imm⟩
  | .mod64X dst src => ⟨0x9f, dst.number, src.number, 0, 0⟩
  | .smod64K dst imm => ⟨0x97, dst.number, 0, 1, imm⟩
  | .smod64X dst src => ⟨0x9f, dst.number, src.number, 1, 0⟩
  | .xor64K dst imm => ⟨0xa7, dst.number, 0, 0, imm⟩
  | .xor64X dst src => ⟨0xaf, dst.number, src.number, 0, 0⟩
  | .mov64K dst imm => ⟨0xb7, dst.number, 0, 0, imm⟩
  | .mov64X dst src => ⟨0xbf, dst.number, src.number, 0, 0⟩
  | .arsh64K dst imm => ⟨0xc7, dst.number, 0, 0, imm⟩
  | .arsh64X dst src => ⟨0xcf, dst.number, src.number, 0, 0⟩
  | .neg64 dst => ⟨0x87, dst.number, 0, 0, 0⟩
  | .movsx64From8 dst src => ⟨0xbf, dst.number, src.number, 8, 0⟩
  | .movsx64From16 dst src => ⟨0xbf, dst.number, src.number, 16, 0⟩
  | .movsx64From32 dst src => ⟨0xbf, dst.number, src.number, 32, 0⟩
  | .add32K dst imm => ⟨0x04, dst.number, 0, 0, imm⟩
  | .add32X dst src => ⟨0x0c, dst.number, src.number, 0, 0⟩
  | .sub32K dst imm => ⟨0x14, dst.number, 0, 0, imm⟩
  | .sub32X dst src => ⟨0x1c, dst.number, src.number, 0, 0⟩
  | .mul32K dst imm => ⟨0x24, dst.number, 0, 0, imm⟩
  | .mul32X dst src => ⟨0x2c, dst.number, src.number, 0, 0⟩
  | .div32K dst imm => ⟨0x34, dst.number, 0, 0, imm⟩
  | .div32X dst src => ⟨0x3c, dst.number, src.number, 0, 0⟩
  | .sdiv32K dst imm => ⟨0x34, dst.number, 0, 1, imm⟩
  | .sdiv32X dst src => ⟨0x3c, dst.number, src.number, 1, 0⟩
  | .or32K dst imm => ⟨0x44, dst.number, 0, 0, imm⟩
  | .or32X dst src => ⟨0x4c, dst.number, src.number, 0, 0⟩
  | .and32K dst imm => ⟨0x54, dst.number, 0, 0, imm⟩
  | .and32X dst src => ⟨0x5c, dst.number, src.number, 0, 0⟩
  | .lsh32K dst imm => ⟨0x64, dst.number, 0, 0, imm⟩
  | .lsh32X dst src => ⟨0x6c, dst.number, src.number, 0, 0⟩
  | .rsh32K dst imm => ⟨0x74, dst.number, 0, 0, imm⟩
  | .rsh32X dst src => ⟨0x7c, dst.number, src.number, 0, 0⟩
  | .mod32K dst imm => ⟨0x94, dst.number, 0, 0, imm⟩
  | .mod32X dst src => ⟨0x9c, dst.number, src.number, 0, 0⟩
  | .smod32K dst imm => ⟨0x94, dst.number, 0, 1, imm⟩
  | .smod32X dst src => ⟨0x9c, dst.number, src.number, 1, 0⟩
  | .xor32K dst imm => ⟨0xa4, dst.number, 0, 0, imm⟩
  | .xor32X dst src => ⟨0xac, dst.number, src.number, 0, 0⟩
  | .mov32K dst imm => ⟨0xb4, dst.number, 0, 0, imm⟩
  | .mov32X dst src => ⟨0xbc, dst.number, src.number, 0, 0⟩
  | .arsh32K dst imm => ⟨0xc4, dst.number, 0, 0, imm⟩
  | .arsh32X dst src => ⟨0xcc, dst.number, src.number, 0, 0⟩
  | .neg32 dst => ⟨0x84, dst.number, 0, 0, 0⟩
  | .movsx32From8 dst src => ⟨0xbc, dst.number, src.number, 8, 0⟩
  | .movsx32From16 dst src => ⟨0xbc, dst.number, src.number, 16, 0⟩
  | .le16 dst => ⟨0xd4, dst.number, 0, 0, 0x10⟩
  | .le32 dst => ⟨0xd4, dst.number, 0, 0, 0x20⟩
  | .le64 dst => ⟨0xd4, dst.number, 0, 0, 0x40⟩
  | .be16 dst => ⟨0xdc, dst.number, 0, 0, 0x10⟩
  | .be32 dst => ⟨0xdc, dst.number, 0, 0, 0x20⟩
  | .be64 dst => ⟨0xdc, dst.number, 0, 0, 0x40⟩
  | .bswap16 dst => ⟨0xd7, dst.number, 0, 0, 0x10⟩
  | .bswap32 dst => ⟨0xd7, dst.number, 0, 0, 0x20⟩
  | .bswap64 dst => ⟨0xd7, dst.number, 0, 0, 0x40⟩
  | .ja offset => ⟨0x05, 0, 0, offset, 0⟩
  | .jeq64K dst offset imm => ⟨0x15, dst.number, 0, offset, imm⟩
  | .jeq64X dst src offset => ⟨0x1d, dst.number, src.number, offset, 0⟩
  | .jgt64K dst offset imm => ⟨0x25, dst.number, 0, offset, imm⟩
  | .jgt64X dst src offset => ⟨0x2d, dst.number, src.number, offset, 0⟩
  | .jge64K dst offset imm => ⟨0x35, dst.number, 0, offset, imm⟩
  | .jge64X dst src offset => ⟨0x3d, dst.number, src.number, offset, 0⟩
  | .jset64K dst offset imm => ⟨0x45, dst.number, 0, offset, imm⟩
  | .jset64X dst src offset => ⟨0x4d, dst.number, src.number, offset, 0⟩
  | .jne64K dst offset imm => ⟨0x55, dst.number, 0, offset, imm⟩
  | .jne64X dst src offset => ⟨0x5d, dst.number, src.number, offset, 0⟩
  | .jsgt64K dst offset imm => ⟨0x65, dst.number, 0, offset, imm⟩
  | .jsgt64X dst src offset => ⟨0x6d, dst.number, src.number, offset, 0⟩
  | .jsge64K dst offset imm => ⟨0x75, dst.number, 0, offset, imm⟩
  | .jsge64X dst src offset => ⟨0x7d, dst.number, src.number, offset, 0⟩
  | .jlt64K dst offset imm => ⟨0xa5, dst.number, 0, offset, imm⟩
  | .jlt64X dst src offset => ⟨0xad, dst.number, src.number, offset, 0⟩
  | .jle64K dst offset imm => ⟨0xb5, dst.number, 0, offset, imm⟩
  | .jle64X dst src offset => ⟨0xbd, dst.number, src.number, offset, 0⟩
  | .jslt64K dst offset imm => ⟨0xc5, dst.number, 0, offset, imm⟩
  | .jslt64X dst src offset => ⟨0xcd, dst.number, src.number, offset, 0⟩
  | .jsle64K dst offset imm => ⟨0xd5, dst.number, 0, offset, imm⟩
  | .jsle64X dst src offset => ⟨0xdd, dst.number, src.number, offset, 0⟩
  | .ja32 imm => ⟨0x06, 0, 0, 0, imm⟩
  | .jeq32K dst offset imm => ⟨0x16, dst.number, 0, offset, imm⟩
  | .jeq32X dst src offset => ⟨0x1e, dst.number, src.number, offset, 0⟩
  | .jgt32K dst offset imm => ⟨0x26, dst.number, 0, offset, imm⟩
  | .jgt32X dst src offset => ⟨0x2e, dst.number, src.number, offset, 0⟩
  | .jge32K dst offset imm => ⟨0x36, dst.number, 0, offset, imm⟩
  | .jge32X dst src offset => ⟨0x3e, dst.number, src.number, offset, 0⟩
  | .jset32K dst offset imm => ⟨0x46, dst.number, 0, offset, imm⟩
  | .jset32X dst src offset => ⟨0x4e, dst.number, src.number, offset, 0⟩
  | .jne32K dst offset imm => ⟨0x56, dst.number, 0, offset, imm⟩
  | .jne32X dst src offset => ⟨0x5e, dst.number, src.number, offset, 0⟩
  | .jsgt32K dst offset imm => ⟨0x66, dst.number, 0, offset, imm⟩
  | .jsgt32X dst src offset => ⟨0x6e, dst.number, src.number, offset, 0⟩
  | .jsge32K dst offset imm => ⟨0x76, dst.number, 0, offset, imm⟩
  | .jsge32X dst src offset => ⟨0x7e, dst.number, src.number, offset, 0⟩
  | .jlt32K dst offset imm => ⟨0xa6, dst.number, 0, offset, imm⟩
  | .jlt32X dst src offset => ⟨0xae, dst.number, src.number, offset, 0⟩
  | .jle32K dst offset imm => ⟨0xb6, dst.number, 0, offset, imm⟩
  | .jle32X dst src offset => ⟨0xbe, dst.number, src.number, offset, 0⟩
  | .jslt32K dst offset imm => ⟨0xc6, dst.number, 0, offset, imm⟩
  | .jslt32X dst src offset => ⟨0xce, dst.number, src.number, offset, 0⟩
  | .jsle32K dst offset imm => ⟨0xd6, dst.number, 0, offset, imm⟩
  | .jsle32X dst src offset => ⟨0xde, dst.number, src.number, offset, 0⟩
  | .callHelper imm => ⟨0x85, 0, 0, 0, imm⟩
  | .callLocal offset imm => ⟨0x85, 0, 1, offset, imm⟩
  | .callBtf imm => ⟨0x85, 0, 2, 0, imm⟩
  | .exit => ⟨0x95, 0, 0, 0, 0⟩
  | .ldxb dst src offset => ⟨0x71, dst.number, src.number, offset, 0⟩
  | .ldxh dst src offset => ⟨0x69, dst.number, src.number, offset, 0⟩
  | .ldxw dst src offset => ⟨0x61, dst.number, src.number, offset, 0⟩
  | .ldxdw dst src offset => ⟨0x79, dst.number, src.number, offset, 0⟩
  | .ldxsb dst src offset => ⟨0x91, dst.number, src.number, offset, 0⟩
  | .ldxsh dst src offset => ⟨0x89, dst.number, src.number, offset, 0⟩
  | .ldxsw dst src offset => ⟨0x81, dst.number, src.number, offset, 0⟩
  | .stb dst offset imm => ⟨0x72, dst.number, 0, offset, imm⟩
  | .sth dst offset imm => ⟨0x6a, dst.number, 0, offset, imm⟩
  | .stw dst offset imm => ⟨0x62, dst.number, 0, offset, imm⟩
  | .stdw dst offset imm => ⟨0x7a, dst.number, 0, offset, imm⟩
  | .stxb dst src offset => ⟨0x73, dst.number, src.number, offset, 0⟩
  | .stxh dst src offset => ⟨0x6b, dst.number, src.number, offset, 0⟩
  | .stxw dst src offset => ⟨0x63, dst.number, src.number, offset, 0⟩
  | .stxdw dst src offset => ⟨0x7b, dst.number, src.number, offset, 0⟩
  | .atomicAdd32 dst src offset => ⟨0xc3, dst.number, src.number, offset, 0⟩
  | .atomicFetchAdd32 dst src offset => ⟨0xc3, dst.number, src.number, offset, 0x1⟩
  | .atomicOr32 dst src offset => ⟨0xc3, dst.number, src.number, offset, 0x40⟩
  | .atomicFetchOr32 dst src offset => ⟨0xc3, dst.number, src.number, offset, 0x41⟩
  | .atomicAnd32 dst src offset => ⟨0xc3, dst.number, src.number, offset, 0x50⟩
  | .atomicFetchAnd32 dst src offset => ⟨0xc3, dst.number, src.number, offset, 0x51⟩
  | .atomicXor32 dst src offset => ⟨0xc3, dst.number, src.number, offset, 0xa0⟩
  | .atomicFetchXor32 dst src offset => ⟨0xc3, dst.number, src.number, offset, 0xa1⟩
  | .atomicXchg32 dst src offset => ⟨0xc3, dst.number, src.number, offset, 0xe1⟩
  | .atomicCmpxchg32 dst src offset => ⟨0xc3, dst.number, src.number, offset, 0xf1⟩
  | .atomicAdd64 dst src offset => ⟨0xdb, dst.number, src.number, offset, 0⟩
  | .atomicFetchAdd64 dst src offset => ⟨0xdb, dst.number, src.number, offset, 0x1⟩
  | .atomicOr64 dst src offset => ⟨0xdb, dst.number, src.number, offset, 0x40⟩
  | .atomicFetchOr64 dst src offset => ⟨0xdb, dst.number, src.number, offset, 0x41⟩
  | .atomicAnd64 dst src offset => ⟨0xdb, dst.number, src.number, offset, 0x50⟩
  | .atomicFetchAnd64 dst src offset => ⟨0xdb, dst.number, src.number, offset, 0x51⟩
  | .atomicXor64 dst src offset => ⟨0xdb, dst.number, src.number, offset, 0xa0⟩
  | .atomicFetchXor64 dst src offset => ⟨0xdb, dst.number, src.number, offset, 0xa1⟩
  | .atomicXchg64 dst src offset => ⟨0xdb, dst.number, src.number, offset, 0xe1⟩
  | .atomicCmpxchg64 dst src offset => ⟨0xdb, dst.number, src.number, offset, 0xf1⟩
  | .lddw dst imm _ => ⟨0x18, dst.number, 0, 0, imm⟩
  | .ldMapFd dst imm => ⟨0x18, dst.number, 1, 0, imm⟩
  | .ldMapValFd dst imm _ => ⟨0x18, dst.number, 2, 0, imm⟩
  | .ldVarAddr dst imm => ⟨0x18, dst.number, 3, 0, imm⟩
  | .ldCodeAddr dst imm => ⟨0x18, dst.number, 4, 0, imm⟩
  | .ldMapIdx dst imm => ⟨0x18, dst.number, 5, 0, imm⟩
  | .ldMapValIdx dst imm _ => ⟨0x18, dst.number, 6, 0, imm⟩
  | .ldAbs size dst src offset imm => ⟨0x20 ||| size.bits, dst, src, offset, imm⟩
  | .ldInd size dst src offset imm => ⟨0x40 ||| size.bits, dst, src, offset, imm⟩

/-- `next_imm` of a wide instruction, nothing for a basic one (`30_encoding.md` R117). -/
def Instr.second : Instr → Option (BitVec 32)
  | .add64K _ _ => none
  | .add64X _ _ => none
  | .sub64K _ _ => none
  | .sub64X _ _ => none
  | .mul64K _ _ => none
  | .mul64X _ _ => none
  | .div64K _ _ => none
  | .div64X _ _ => none
  | .sdiv64K _ _ => none
  | .sdiv64X _ _ => none
  | .or64K _ _ => none
  | .or64X _ _ => none
  | .and64K _ _ => none
  | .and64X _ _ => none
  | .lsh64K _ _ => none
  | .lsh64X _ _ => none
  | .rsh64K _ _ => none
  | .rsh64X _ _ => none
  | .mod64K _ _ => none
  | .mod64X _ _ => none
  | .smod64K _ _ => none
  | .smod64X _ _ => none
  | .xor64K _ _ => none
  | .xor64X _ _ => none
  | .mov64K _ _ => none
  | .mov64X _ _ => none
  | .arsh64K _ _ => none
  | .arsh64X _ _ => none
  | .neg64 _ => none
  | .movsx64From8 _ _ => none
  | .movsx64From16 _ _ => none
  | .movsx64From32 _ _ => none
  | .add32K _ _ => none
  | .add32X _ _ => none
  | .sub32K _ _ => none
  | .sub32X _ _ => none
  | .mul32K _ _ => none
  | .mul32X _ _ => none
  | .div32K _ _ => none
  | .div32X _ _ => none
  | .sdiv32K _ _ => none
  | .sdiv32X _ _ => none
  | .or32K _ _ => none
  | .or32X _ _ => none
  | .and32K _ _ => none
  | .and32X _ _ => none
  | .lsh32K _ _ => none
  | .lsh32X _ _ => none
  | .rsh32K _ _ => none
  | .rsh32X _ _ => none
  | .mod32K _ _ => none
  | .mod32X _ _ => none
  | .smod32K _ _ => none
  | .smod32X _ _ => none
  | .xor32K _ _ => none
  | .xor32X _ _ => none
  | .mov32K _ _ => none
  | .mov32X _ _ => none
  | .arsh32K _ _ => none
  | .arsh32X _ _ => none
  | .neg32 _ => none
  | .movsx32From8 _ _ => none
  | .movsx32From16 _ _ => none
  | .le16 _ => none
  | .le32 _ => none
  | .le64 _ => none
  | .be16 _ => none
  | .be32 _ => none
  | .be64 _ => none
  | .bswap16 _ => none
  | .bswap32 _ => none
  | .bswap64 _ => none
  | .ja _ => none
  | .jeq64K _ _ _ => none
  | .jeq64X _ _ _ => none
  | .jgt64K _ _ _ => none
  | .jgt64X _ _ _ => none
  | .jge64K _ _ _ => none
  | .jge64X _ _ _ => none
  | .jset64K _ _ _ => none
  | .jset64X _ _ _ => none
  | .jne64K _ _ _ => none
  | .jne64X _ _ _ => none
  | .jsgt64K _ _ _ => none
  | .jsgt64X _ _ _ => none
  | .jsge64K _ _ _ => none
  | .jsge64X _ _ _ => none
  | .jlt64K _ _ _ => none
  | .jlt64X _ _ _ => none
  | .jle64K _ _ _ => none
  | .jle64X _ _ _ => none
  | .jslt64K _ _ _ => none
  | .jslt64X _ _ _ => none
  | .jsle64K _ _ _ => none
  | .jsle64X _ _ _ => none
  | .ja32 _ => none
  | .jeq32K _ _ _ => none
  | .jeq32X _ _ _ => none
  | .jgt32K _ _ _ => none
  | .jgt32X _ _ _ => none
  | .jge32K _ _ _ => none
  | .jge32X _ _ _ => none
  | .jset32K _ _ _ => none
  | .jset32X _ _ _ => none
  | .jne32K _ _ _ => none
  | .jne32X _ _ _ => none
  | .jsgt32K _ _ _ => none
  | .jsgt32X _ _ _ => none
  | .jsge32K _ _ _ => none
  | .jsge32X _ _ _ => none
  | .jlt32K _ _ _ => none
  | .jlt32X _ _ _ => none
  | .jle32K _ _ _ => none
  | .jle32X _ _ _ => none
  | .jslt32K _ _ _ => none
  | .jslt32X _ _ _ => none
  | .jsle32K _ _ _ => none
  | .jsle32X _ _ _ => none
  | .callHelper _ => none
  | .callLocal _ _ => none
  | .callBtf _ => none
  | .exit => none
  | .ldxb _ _ _ => none
  | .ldxh _ _ _ => none
  | .ldxw _ _ _ => none
  | .ldxdw _ _ _ => none
  | .ldxsb _ _ _ => none
  | .ldxsh _ _ _ => none
  | .ldxsw _ _ _ => none
  | .stb _ _ _ => none
  | .sth _ _ _ => none
  | .stw _ _ _ => none
  | .stdw _ _ _ => none
  | .stxb _ _ _ => none
  | .stxh _ _ _ => none
  | .stxw _ _ _ => none
  | .stxdw _ _ _ => none
  | .atomicAdd32 _ _ _ => none
  | .atomicFetchAdd32 _ _ _ => none
  | .atomicOr32 _ _ _ => none
  | .atomicFetchOr32 _ _ _ => none
  | .atomicAnd32 _ _ _ => none
  | .atomicFetchAnd32 _ _ _ => none
  | .atomicXor32 _ _ _ => none
  | .atomicFetchXor32 _ _ _ => none
  | .atomicXchg32 _ _ _ => none
  | .atomicCmpxchg32 _ _ _ => none
  | .atomicAdd64 _ _ _ => none
  | .atomicFetchAdd64 _ _ _ => none
  | .atomicOr64 _ _ _ => none
  | .atomicFetchOr64 _ _ _ => none
  | .atomicAnd64 _ _ _ => none
  | .atomicFetchAnd64 _ _ _ => none
  | .atomicXor64 _ _ _ => none
  | .atomicFetchXor64 _ _ _ => none
  | .atomicXchg64 _ _ _ => none
  | .atomicCmpxchg64 _ _ _ => none
  | .lddw _ _ nextImm => some nextImm
  | .ldMapFd _ _ => some 0
  | .ldMapValFd _ _ nextImm => some nextImm
  | .ldVarAddr _ _ => some 0
  | .ldCodeAddr _ _ => some 0
  | .ldMapIdx _ _ => some 0
  | .ldMapValIdx _ _ nextImm => some nextImm
  | .ldAbs _ _ _ _ _ => none
  | .ldInd _ _ _ _ _ => none

/-- The second slot of a wide instruction: zero but for `next_imm` (`30_encoding.md` R116). -/
def secondSlot (e : Endian) (nextImm : BitVec 32) : Slot := Fields.slot e ⟨0, 0, 0, 0, nextImm⟩

/-- The slots of an instruction: one, or two for a wide one (`30_encoding.md` R110). -/
def encode (e : Endian) (i : Instr) : List Slot :=
  i.fields.slot e :: (i.second.map (secondSlot e)).toList

/-! ### The words of `opcode_table.json` -/

/-- The slot of a logical word (`30_encoding.md` R112). -/
def slotOfWord (e : Endian) (w : BitVec 64) : Slot := (Fields.ofWord w).slot e

/-- The two slots of a table word of `nbits` bits, the bits above them zero: the first slot is bits 63 to 0, the
second is bits 127 to 64. -/
def tableSlots (e : Endian) (nbits w : Nat) : List Slot :=
  let v := w % 2 ^ nbits
  [slotOfWord e (BitVec.ofNat 64 v), slotOfWord e (BitVec.ofNat 64 (v / 2 ^ 64))]

/-- The decoder on a word of `opcode_table.json`, laid out in the little-endian order, with `LOCAL_CALL_DISP` =
`offset` as the table's row of `CALL_LOCAL` has it (log entry 15). -/
def decodeTableWord (nbits w : Nat) : Option Instr :=
  match decode .little .offset (tableSlots .little nbits w) with
  | .ok i => some i
  | .error _ => none

end Sys2Proof
end

