-- ==== Sys2Proof/Machine/Areas.lean ====
section
/-! DEFINITION. The memory a launch describes: the stack area, the regions, and which bytes other agents may change
(`20_memory.md` R71, R80, R85, R90). -/

namespace Sys2Proof.Machine

/-- Whether the n bytes from `a` lie inside the region. -/
def regionHolds (g : Region) (a n : Nat) : Bool :=
  decide (g.base.toNat ≤ a) && decide (a + n ≤ g.base.toNat + g.length)

/-- `STACK_TOP - STACK_SIZE * MAX_CALL_DEPTH` (`20_memory.md` R80). -/
def stackBottom (c : Config) : Nat := c.stackTop.toNat - c.stackSize * c.maxCallDepth

/-- The stack area: one readable, writable region that no other agent shares (`20_memory.md` R80, R90). -/
def stackArea (c : Config) : Region :=
  { base := BitVec.ofNat 64 (stackBottom c), length := c.stackTop.toNat - stackBottom c, readable := true,
    writable := true, shared := false }

/-- A byte of the stack area. -/
def stackByteAt (c : Config) (a : Nat) : Bool := regionHolds (stackArea c) a 1

/-- Everything a program may touch: the stack area and `REGIONS` (`20_memory.md` R85). -/
def areas (c : Config) : List Region := stackArea c :: c.regions

/-- The region starts at `MAP_VAL(m)` for some map m: it is the value of a map (`48_imm64.md` R488). -/
def isMapValue (c : Config) (g : Region) : Bool :=
  c.mapVal.any fun p => c.mapVal.lookup p.1 == some g.base

/-- Whether other agents may change the bytes of a region: the launch marks it shared (`20_memory.md` R90), or it is the
value of a map, whose private attribute is false whatever the mark says (`48_imm64.md` R488; log entry 23). -/
def regionShared (c : Config) (g : Region) : Bool := g.shared || isMapValue c g

/-- Whether other agents may change a byte: it lies in a shared region, and not in the stack (`20_memory.md` R90). -/
def sharedByteAt (c : Config) (a : Nat) : Bool :=
  !stackByteAt c a && c.regions.any (fun g => regionShared c g && regionHolds g a 1)

/-- The bytes whose contents a launch gives: those of the regions. The stack's contents are unspecified
(`70_reset_and_hazards.md` R560). -/
def launchByteAt (c : Config) (a : Nat) : Bool :=
  !stackByteAt c a && c.regions.any (fun g => regionHolds g a 1)

end Sys2Proof.Machine
end

