-- ==== Sys2Proof/Machine/State.lean ====
section
/-! DEFINITION. The state of one execution (`10_state.md`), the faults it can be in, and the launch. -/

namespace Sys2Proof.Machine

/-- The eleven registers (`10_state.md` R30). `none` is the spec's own state "unwritten" (R33; log entry 6). R10 always
holds a value (R32, R560). -/
structure RegFile where
  r0 : Option Word
  r1 : Option Word
  r2 : Option Word
  r3 : Option Word
  r4 : Option Word
  r5 : Option Word
  r6 : Option Word
  r7 : Option Word
  r8 : Option Word
  r9 : Option Word
  r10 : Word
deriving DecidableEq, Repr

/-- One record of the call stack (`10_state.md` R40). -/
structure Frame where
  ret : Int
  saved6 : Option Word
  saved7 : Option Word
  saved8 : Option Word
  saved9 : Option Word
  fp : Word
deriving DecidableEq, Repr

/-- The kind of a memory access (`20_memory.md` R70). -/
inductive AccessKind where
  | read | write | atomic
deriving DecidableEq, Repr

/-- The reason of a `MemoryFault`, in the order in which they are tried (`60_exceptions.md` R516). -/
inductive MemReason where
  | wraps | misaligned | notMapped | noPermission
deriving DecidableEq, Repr

/-- The subtypes of a wide instruction that ask the platform for an address (`48_imm64.md` R480). -/
inductive RefSubtype where
  | mapFd | mapValFd | varAddr | codeAddr | mapIdx | mapValIdx
deriving DecidableEq, Repr

/-- The eight fault kinds with what each records (`60_exceptions.md` R511). -/
inductive FaultInfo where
  | pcOutOfRange (pc : Int)
  | illegalInstruction (pc : Int) (w : BitVec 64) (w2 : Option (BitVec 64))
  | unwrittenRegister (pc : Int) (reg : Reg)
  | memoryFault (pc : Int) (addr : Word) (size : MemSize) (kind : AccessKind) (reason : MemReason)
  | unknownHelper (pc : Int) (imm : BitVec 32) (table : HelperTable)
  | callDepthExceeded (pc : Int)
  | unresolvedReference (pc : Int) (subtype : RefSubtype) (arg : BitVec 32)
  | helperFault (pc : Int) (imm : BitVec 32)
deriving DecidableEq, Repr

/-- The status of an execution (`10_state.md` R42). -/
inductive Status where
  | running
  | exited (v : Word)
  | faulted (info : FaultInfo)
deriving DecidableEq, Repr

/-- Data memory (`20_memory.md` R70): the bytes that the launch lists or this execution has written, in the one form
`Memory.wf` says. What a read of an unlisted address returns is a free value (log entries 7, 8). -/
structure Memory where
  cells : List Host.Cell
deriving DecidableEq, Repr

/-- Everything the spec gives one execution. `cfg` and `prog` are the parameters of the step that `10_state.md` R45
names; no step changes them (log entry 2). `draws` is the model's own counter of the events that consumed a free value
(log entry 10). -/
structure State where
  cfg : Config
  prog : List Slot
  regs : RegFile
  pc : Int
  frames : List Frame
  status : Status
  mem : Memory
  draws : Nat
deriving DecidableEq, Repr

/-- Why a step gives no next state. A fault of the spec is not one of these: it is taken (log entry 1). -/
inductive Fault where
  /-- Raised by `step` on a state whose status is `Exited`: only `Running` executions step (`10_state.md` R42). Safe. -/
  | alreadyExited
  /-- Raised by `step` on a state whose status is `Faulted`: no later step is taken (`60_exceptions.md` R512). Safe. -/
  | alreadyFaulted
deriving DecidableEq, Repr

/-- Refusals of the machine. -/
inductive Refusal where
  /-- Raised by an arm of `exec` whose instruction has no meaning yet. No arm is left that raises it. Safe. -/
  | notModelled (mnemonic : String)
deriving DecidableEq, Repr

/-- The listed bytes at the addresses that satisfy `p`. -/
def Memory.only (m : Memory) (p : Nat → Bool) : Memory := ⟨m.cells.filter fun cell => p cell.1⟩

/-- The launch state (`70_reset_and_hazards.md` R560): R1 to R5 hold the entry arguments given, R10 holds `STACK_TOP`,
every other register is unwritten, pc is 0, the call stack is empty. `mem` gives bytes of the regions; the stack's bytes
are unspecified, so no byte of it is taken. `launchOk` is the precondition (R570). -/
def State.launch (cfg : Config) (prog : List Slot) (entryArgs : List Word) (mem : Memory) : State where
  cfg := cfg
  prog := prog
  regs :=
    { r0 := none
      r1 := entryArgs[0]?
      r2 := entryArgs[1]?
      r3 := entryArgs[2]?
      r4 := entryArgs[3]?
      r5 := entryArgs[4]?
      r6 := none
      r7 := none
      r8 := none
      r9 := none
      r10 := cfg.stackTop }
  pc := 0
  frames := []
  status := .running
  mem := mem.only (launchByteAt cfg)
  draws := 0

/-- The machine right after reset: the launch (R560) with the launch arguments of log entries 3 to 5. -/
def State.reset : State := State.launch Config.default [] [0, 0, 0, 0, 0] ⟨[]⟩

end Sys2Proof.Machine
end

