-- ==== Sys2Proof/Machine/Memory.lean ====
section
/-! DEFINITION. Bytes of memory in one canonical form, and values of several bytes (`20_memory.md` R70, R74, R75). -/

namespace Sys2Proof.Machine

/-! ### One byte -/

/-- The value listed for an address, if any. -/
def Memory.byte? (m : Memory) (a : Nat) : Option Byte := m.cells.lookup a

/-- Addresses strictly rising from `lo`, all below 2^64 (`10_state.md` R44: an address is a u64). -/
def risingFrom (lo : Nat) : List Host.Cell → Bool
  | [] => true
  | (a, _) :: cs => decide (lo ≤ a) && decide (a < 2 ^ 64) && risingFrom (a + 1) cs

/-- The canonical form. `Memory.byte?` of an unlisted address is `none`, so no entry can equal it. -/
def Memory.wf (m : Memory) : Bool := risingFrom 0 m.cells

/-- The list with the byte at `a` set to `v`, in rising order. -/
def setCell (a : Nat) (v : Byte) : List Host.Cell → List Host.Cell
  | [] => [(a, v)]
  | (b, w) :: cs =>
    if a < b then (a, v) :: (b, w) :: cs
    else if a = b then (a, v) :: cs
    else (b, w) :: setCell a v cs

/-- The byte at `a` becomes `v`. There is no address from 2^64 on (`10_state.md` R44). -/
def Memory.set (m : Memory) (a : Nat) (v : Byte) : Memory :=
  if a < 2 ^ 64 then ⟨setCell a v m.cells⟩ else m

/-! ### Several bytes -/

/-- The bytes at `a`, `a + 1`, … become `bs`. -/
def Memory.setAll (m : Memory) (a : Nat) : List Byte → Memory
  | [] => m
  | b :: bs => (m.set a b).setAll (a + 1) bs

/-- Scattered writes in order, for a helper function's effect (`45_call_exit.md` R395). -/
def Memory.apply (m : Memory) : List (Word × Byte) → Memory
  | [] => m
  | (a, v) :: ws => (m.set a.toNat v).apply ws

/-- `sum over k of b[k] * 2^(8k)`. -/
def littleSum : List Byte → Nat
  | [] => 0
  | b :: bs => b.toNat + 256 * littleSum bs

/-- The value of n bytes in address order (`20_memory.md` R74). -/
def joinBytes (e : Endian) (bs : List Byte) : Word :=
  match e with
  | .little => BitVec.ofNat 64 (littleSum bs)
  | .big => BitVec.ofNat 64 (littleSum bs.reverse)

/-- The low n bytes of v in address order (`20_memory.md` R75). -/
def splitBytes (e : Endian) (n : Nat) (v : Word) : List Byte :=
  match e with
  | .little => (List.range n).map fun k => v.extractLsb' (8 * k) 8
  | .big => (List.range n).map fun k => v.extractLsb' (8 * (n - 1 - k)) 8

end Sys2Proof.Machine
end

