-- ==== Sys2Proof/Machine/Operands.lean ====
section
/-! DEFINITION. How fields and register values become operands (`30_encoding.md` R140, R141), and the extensions,
truncations and byte swaps of `00_scope.md` R9. -/

namespace Sys2Proof.Machine

/-- `sext_64(imm)`: the source operand of a 64-bit operation with `BPF_K` (`40_alu64.md` R201). -/
def sextImm (imm : BitVec 32) : Word := imm.signExtend 64

/-- `zext_64` of a 32-bit value: how a 32-bit result is written (`41_alu32.md` R250). -/
def zext32 (v : BitVec 32) : Word := v.setWidth 64

/-- `v[31:0]` of a register value: the operand of a 32-bit operation. -/
def low32 (v : Word) : BitVec 32 := v.setWidth 32

/-- `imm64` of a wide instruction: two bit patterns side by side (`30_encoding.md` R116). -/
def wideImm (imm nextImm : BitVec 32) : Word := nextImm ++ imm

/-- `(x[base] + sext_64(offset)) mod 2^64` (`20_memory.md` R72). -/
def effectiveAddress (base : Word) (offset : BitVec 16) : Word := base + offset.signExtend 64

/-- The target of a taken jump or call with displacement d: `pc + 1 + d`, never wrapping (`10_state.md` R37, R38). -/
def jumpTarget (pc : Int) (d : Int) : Int := pc + 1 + d

/-- `sext_64(v[7:0])`. -/
def sext8 (v : Word) : Word := (v.setWidth 8).signExtend 64

/-- `sext_64(v[15:0])`. -/
def sext16 (v : Word) : Word := (v.setWidth 16).signExtend 64

/-- `sext_64(v[31:0])`. -/
def sext32 (v : Word) : Word := (v.setWidth 32).signExtend 64

/-- `sext_32(v[7:0])`. -/
def sext8To32 (v : Word) : BitVec 32 := (v.setWidth 8).signExtend 32

/-- `sext_32(v[15:0])`. -/
def sext16To32 (v : Word) : BitVec 32 := (v.setWidth 16).signExtend 32

/-- `bswap_16(v)` (`00_scope.md` R9). -/
def bswap16 (v : BitVec 16) : BitVec 16 := v.extractLsb' 0 8 ++ v.extractLsb' 8 8

/-- `bswap_32(v)`. -/
def bswap32 (v : BitVec 32) : BitVec 32 :=
  v.extractLsb' 0 8 ++ v.extractLsb' 8 8 ++ v.extractLsb' 16 8 ++ v.extractLsb' 24 8

/-- `bswap_64(v)`. -/
def bswap64 (v : Word) : Word :=
  v.extractLsb' 0 8 ++ v.extractLsb' 8 8 ++ v.extractLsb' 16 8 ++ v.extractLsb' 24 8 ++
    v.extractLsb' 32 8 ++ v.extractLsb' 40 8 ++ v.extractLsb' 48 8 ++ v.extractLsb' 56 8

/-- Converting between host order and a named order: the identity when they are the same, a byte reversal when they
differ (`42_byteswap.md` R302). -/
def convertOrder {w : Nat} (host named : Endian) (reverse : BitVec w → BitVec w) (v : BitVec w) : BitVec w :=
  if host = named then v else reverse v

end Sys2Proof.Machine
end

