-- ==== Sys2Proof/Machine/Ops.lean ====
section
/-! DEFINITION. The shared operations: taking a fault, registers, admission, memory, calls and returns. -/

namespace Sys2Proof.Machine

/-- What the meaning of an instruction answers. -/
abbrev Result := Host.Outcome State Fault Refusal

/-! ### Taking a fault -/

/-- `raise K(info)`: the status becomes `Faulted(K, info)` and nothing else changes (`60_exceptions.md` R512). There is
no handler, no saved state and no return from a fault (R522, R523), so no operation stands beside this one. -/
def State.raise (s : State) (k : FaultInfo) : State := { s with status := .faulted k }

/-- The outcome of an instruction's rule that either finishes with a state or raises a fault. The fault is raised on
the state before the instruction, so that it has no partial effect (R512). -/
def State.attempt (s : State) (r : Except FaultInfo State) : Result :=
  match r with
  | .ok t => .next t
  | .error k => .next (s.raise k)

/-- The code of a fault kind (`60_exceptions.md` R511). -/
def FaultInfo.code : FaultInfo → Nat
  | .pcOutOfRange .. => 1
  | .illegalInstruction .. => 2
  | .unwrittenRegister .. => 3
  | .memoryFault .. => 4
  | .unknownHelper .. => 5
  | .callDepthExceeded .. => 6
  | .unresolvedReference .. => 7
  | .helperFault .. => 8

/-- The number of a wide subtype: 1 to 6 (`48_imm64.md` R480). -/
def RefSubtype.number : RefSubtype → Nat
  | .mapFd => 1
  | .mapValFd => 2
  | .varAddr => 3
  | .codeAddr => 4
  | .mapIdx => 5
  | .mapValIdx => 6

/-! ### Registers -/

/-- What a register holds; `none` is "unwritten" (`10_state.md` R33). -/
def RegFile.get (f : RegFile) : Reg → Option Word
  | .r0 => f.r0
  | .r1 => f.r1
  | .r2 => f.r2
  | .r3 => f.r3
  | .r4 => f.r4
  | .r5 => f.r5
  | .r6 => f.r6
  | .r7 => f.r7
  | .r8 => f.r8
  | .r9 => f.r9
  | .r10 => some f.r10

/-- A register takes a value or becomes unwritten. R10 is read-only (`10_state.md` R32): no instruction that decodes
puts it, and a put of it changes nothing (log entry 17). -/
def RegFile.put (f : RegFile) (r : Reg) (v : Option Word) : RegFile :=
  match r with
  | .r0 => { f with r0 := v }
  | .r1 => { f with r1 := v }
  | .r2 => { f with r2 := v }
  | .r3 => { f with r3 := v }
  | .r4 => { f with r4 := v }
  | .r5 => { f with r5 := v }
  | .r6 => { f with r6 := v }
  | .r7 => { f with r7 := v }
  | .r8 => { f with r8 := v }
  | .r9 => { f with r9 := v }
  | .r10 => f

/-- `x[i]`: reading an unwritten register raises `UnwrittenRegister(i)` (`00_scope.md` R9, `60_exceptions.md` R515). -/
def State.readReg (s : State) (r : Reg) : Except FaultInfo Word :=
  match s.regs.get r with
  | some v => .ok v
  | none => .error (.unwrittenRegister s.pc r)

/-- Several registers, in the order given; the first unwritten one raises. -/
def State.readRegs (s : State) : List Reg → Except FaultInfo (List Word)
  | [] => .ok []
  | r :: rs => do
    let v ← s.readReg r
    let vs ← s.readRegs rs
    return v :: vs

/-- `x[i] <- v`. -/
def State.writeReg (s : State) (r : Reg) (v : Word) : State := { s with regs := s.regs.put r (some v) }

/-- `x[1..5] <- unwritten`: what every call leaves behind (`10_state.md` R33). -/
def RegFile.loseArgs (f : RegFile) : RegFile :=
  { f with r1 := none, r2 := none, r3 := none, r4 := none, r5 := none }

/-! ### The program counter -/

/-- `pc <- t`. -/
def State.goto (s : State) (t : Int) : State := { s with pc := t }

/-- `pc <- pc + n`: 1 after a basic instruction, 2 after a wide one (`10_state.md` R37). -/
def State.advance (s : State) (n : Int) : State := { s with pc := s.pc + n }

/-- A move that reads the source register only: `x[dst] <- f(x[src]); pc <- pc + 1`. -/
def State.move (s : State) (src dst : Reg) (f : Word → Word) : Except FaultInfo State := do
  let v ← s.readReg src
  return (s.writeReg dst (f v)).advance 1

/-! ### Admission of a memory access (`20_memory.md` R71) -/

/-- n of an access. -/
def sizeBytes : MemSize → Nat
  | .b => 1
  | .h => 2
  | .w => 4
  | .dw => 8

/-- Whether the region allows a kind of access. -/
def regionAllows (g : Region) (k : AccessKind) : Bool :=
  match k with
  | .read => g.readable
  | .write => g.writable
  | .atomic => g.readable && g.writable

/-- Whether alignment refuses the access (`20_memory.md` R79). -/
def misaligned (c : Config) (a : Word) (n : MemSize) (k : AccessKind) : Bool :=
  (c.alignStrict || k == .atomic) && a.toNat % sizeBytes n != 0

/-- Why an access is not admitted, the first reason that applies (`60_exceptions.md` R516); `none` when it is
admitted (`20_memory.md` R71). -/
def denial (c : Config) (a : Word) (n : MemSize) (k : AccessKind) : Option MemReason :=
  if 2 ^ 64 < a.toNat + sizeBytes n then some .wraps
  else if misaligned c a n k then some .misaligned
  else if !(areas c).any (fun g => regionHolds g a.toNat (sizeBytes n)) then some .notMapped
  else if !(areas c).any (fun g => regionHolds g a.toNat (sizeBytes n) && regionAllows g k) then some .noPermission
  else none

/-- The check that every access makes first. -/
def State.checkAccess (s : State) (a : Word) (n : MemSize) (k : AccessKind) : Except FaultInfo Unit :=
  match denial s.cfg a n k with
  | none => .ok ()
  | some why => .error (.memoryFault s.pc a n k why)

/-! ### Memory events -/

/-- The byte at `a` as a read of this step sees it. A shared byte is an input (`20_memory.md` R90, R91). Any other byte
holds this execution's latest write or the listed launch value; without either, a stack byte is any value at each read
(R81), and a byte of a private region is its one launch value (R81, R91; log entry 8). -/
def State.seenByte (s : State) (a : Nat) : Byte :=
  if sharedByteAt s.cfg a then Config.sharedByte s.draws a (s.mem.byte? a)
  else
    match s.mem.byte? a with
    | some v => v
    | none => if stackByteAt s.cfg a then Config.unspecifiedByte s.draws a else Config.launchByte a

/-- The value of the n bytes at `a` by `ENDIAN` (`20_memory.md` R74). -/
def State.valueAt (s : State) (a : Word) (n : MemSize) : Word :=
  joinBytes s.cfg.endian ((List.range (sizeBytes n)).map fun k => s.seenByte (a.toNat + k))

/-- Memory with the low n bytes of `v` at `a` by `ENDIAN` (`20_memory.md` R75). -/
def State.stored (s : State) (a : Word) (n : MemSize) (v : Word) : Memory :=
  s.mem.setAll a.toNat (splitBytes s.cfg.endian (sizeBytes n) v)

/-- The next free value of the same kind is another one (`20_memory.md` R81; log entry 10). -/
def State.drawn (s : State) : State := { s with draws := s.draws + 1 }

/-- `MemRead(addr, n)`: it changes no state of the spec (`20_memory.md` R74, R84). -/
def State.memRead (s : State) (a : Word) (n : MemSize) : Except FaultInfo Word := do
  s.checkAccess a n .read
  return s.valueAt a n

/-- `MemWrite(addr, n, v)` (`20_memory.md` R75). -/
def State.memWrite (s : State) (a : Word) (n : MemSize) (v : Word) : Except FaultInfo State := do
  s.checkAccess a n .write
  return { s with mem := s.stored a n v }

/-- The atomic event (`47_atomic.md` R440): it reads the old value and stores what `f` makes of it, or nothing where
`f` gives nothing, as one indivisible event. It answers the old value and the state after the event. -/
def State.atomicEvent (s : State) (a : Word) (n : MemSize) (f : Word → Option Word) :
    Except FaultInfo (Word × State) := do
  s.checkAccess a n .atomic
  let old := s.valueAt a n
  match f old with
  | some new => return (old, ({ s with mem := s.stored a n new } : State).drawn)
  | none => return (old, s.drawn)

/-! ### Helper functions (`45_call_exit.md` R390, R392, R395) -/

/-- The table a helper call looks its identifier up in. -/
def helperTable (c : Config) : HelperTable → List (BitVec 32 × Helper)
  | .helpers => c.helpers
  | .btfHelpers => c.btfHelpers

/-- `x[1]` to `x[k]`, lowest first (`60_exceptions.md` R515). -/
def State.readArgs (s : State) (k : Nat) : Except FaultInfo (List Word) :=
  s.readRegs ([Reg.r1, .r2, .r3, .r4, .r5].take k)

/-- Whether a case of a helper is about this call: its arguments are those of the call, and memory holds its bytes as
a read of this step sees them. -/
def State.caseApplies (s : State) (args : List Word) (k : HelperCase) : Bool :=
  k.args == args && k.memory.all (fun b => s.seenByte b.1.toNat == b.2)

/-- The answer of a helper function: that of its first case that applies, else a free value (log entry 11). -/
def State.answerOf (s : State) (t : HelperTable) (imm : BitVec 32) (h : Helper) (args : List Word) : HelperAnswer :=
  match h.known.find? (s.caseApplies args) with
  | some k => k.answer
  | none => Config.helperAnswer t imm args s.mem.cells s.draws

/-- The state after a helper answered r: `memory <- memory'`, `x[0] <- r`, `x[1..5] <- unwritten`, `pc <- pc + 1`. -/
def State.afterHelper (s : State) (r : Word) (writes : List (Word × Byte)) : State :=
  { s with regs := (s.regs.put .r0 (some r)).loseArgs, mem := s.mem.apply writes, pc := s.pc + 1,
           draws := s.draws + 1 }

/-- A call of a helper function. The identifier is looked up before the arguments are read, and the helper's own
failure comes last (`60_exceptions.md` R522). -/
def State.callHelper (s : State) (t : HelperTable) (imm : BitVec 32) : Except FaultInfo State :=
  match (helperTable s.cfg t).lookup imm with
  | none => .error (.unknownHelper s.pc imm t)
  | some h => do
    let args ← s.readArgs h.arity.val
    match s.answerOf t imm h args with
    | .failure => .error (.helperFault s.pc imm)
    | .result r writes => return s.afterHelper r writes

/-! ### Program-local calls and returns -/

/-- The record a program-local call pushes (`10_state.md` R40). Saving an unwritten register is not a read (R35). -/
def State.frameNow (s : State) : Frame :=
  { ret := s.pc + 1, saved6 := s.regs.r6, saved7 := s.regs.r7, saved8 := s.regs.r8, saved9 := s.regs.r9,
    fp := s.regs.r10 }

/-- The displacement of a program-local call: the field that `LOCAL_CALL_DISP` names (`45_call_exit.md` R391). -/
def callDisplacement (c : Config) (offset : BitVec 16) (imm : BitVec 32) : Int :=
  match c.localCallDisp with
  | .offset => offset.toInt
  | .imm => imm.toInt

/-- The state in the callee (`45_call_exit.md` R391): R0 and R6 to R9 unwritten, R10 one frame lower, R1 to R5 as the
caller left them. -/
def State.enter (s : State) (d : Int) : State :=
  { s with
    frames := s.frameNow :: s.frames
    regs := { s.regs with r0 := none, r6 := none, r7 := none, r8 := none, r9 := none,
                          r10 := s.regs.r10 - BitVec.ofNat 64 s.cfg.stackSize }
    pc := jumpTarget s.pc d }

/-- A program-local call: at most `MAX_CALL_DEPTH` activations are ever live (`60_exceptions.md` R518). -/
def State.callLocal (s : State) (d : Int) : Except FaultInfo State :=
  if s.cfg.maxCallDepth ≤ s.frames.length + 1 then .error (.callDepthExceeded s.pc) else .ok (s.enter d)

/-- The state back in the caller of the record `f` (`45_call_exit.md` R393). -/
def State.leave (s : State) (f : Frame) (rest : List Frame) : State :=
  { s with
    frames := rest
    regs := { s.regs.loseArgs with r6 := f.saved6, r7 := f.saved7, r8 := f.saved8, r9 := f.saved9, r10 := f.fp }
    pc := f.ret }

/-- The end of the entry activation: `status <- Exited(v)`, everything else kept (`45_call_exit.md` R393). -/
def State.finish (s : State) (v : Word) : State := { s with status := .exited v }

end Sys2Proof.Machine
end

