-- ==== Sys2Proof/Machine/Alu32.lean ====
section
/-! DEFINITION. The 32-bit arithmetic instructions (`41_alu32.md`). -/

namespace Sys2Proof.Machine

/-- A 32-bit operation with `BPF_K`: on the low halves, the result zero-extended (`41_alu32.md` R250, R251). -/
def State.alu32Imm (s : State) (dst : Reg) (imm : BitVec 32) (op : BitVec 32 → BitVec 32 → BitVec 32) :
    Except FaultInfo State := do
  let d ← s.readReg dst
  return (s.writeReg dst (zext32 (op (low32 d) imm))).advance 1

/-- A 32-bit operation with `BPF_X` (`41_alu32.md` R250, R251). -/
def State.alu32Reg (s : State) (dst src : Reg) (op : BitVec 32 → BitVec 32 → BitVec 32) : Except FaultInfo State := do
  let d ← s.readReg dst
  let v ← s.readReg src
  return (s.writeReg dst (zext32 (op (low32 d) (low32 v)))).advance 1

/-- 32-bit negation (`41_alu32.md` R282). -/
def State.negate32 (s : State) (dst : Reg) : Except FaultInfo State := do
  let d ← s.readReg dst
  return (s.writeReg dst (zext32 (negOp (low32 d)))).advance 1

/-- R254 `ADD32_K`: add, immediate source. -/
def execAdd32K (dst : Reg) (imm : BitVec 32) (s : State) : Result :=
  s.attempt (s.alu32Imm dst imm addOp)

/-- R255 `ADD32_X`: add, register source. -/
def execAdd32X (dst src : Reg) (s : State) : Result :=
  s.attempt (s.alu32Reg dst src addOp)

/-- R256 `SUB32_K`: subtract, immediate source. -/
def execSub32K (dst : Reg) (imm : BitVec 32) (s : State) : Result :=
  s.attempt (s.alu32Imm dst imm subOp)

/-- R257 `SUB32_X`: subtract, register source. -/
def execSub32X (dst src : Reg) (s : State) : Result :=
  s.attempt (s.alu32Reg dst src subOp)

/-- R258 `MUL32_K`: multiply, immediate source. -/
def execMul32K (dst : Reg) (imm : BitVec 32) (s : State) : Result :=
  s.attempt (s.alu32Imm dst imm mulOp)

/-- R259 `MUL32_X`: multiply, register source. -/
def execMul32X (dst src : Reg) (s : State) : Result :=
  s.attempt (s.alu32Reg dst src mulOp)

/-- R260 `DIV32_K`: unsigned divide, immediate source. -/
def execDiv32K (dst : Reg) (imm : BitVec 32) (s : State) : Result :=
  s.attempt (s.alu32Imm dst imm divOp)

/-- R261 `DIV32_X`: unsigned divide, register source. -/
def execDiv32X (dst src : Reg) (s : State) : Result :=
  s.attempt (s.alu32Reg dst src divOp)

/-- R262 `SDIV32_K`: signed divide, immediate source. -/
def execSdiv32K (dst : Reg) (imm : BitVec 32) (s : State) : Result :=
  s.attempt (s.alu32Imm dst imm sdivOp)

/-- R263 `SDIV32_X`: signed divide, register source. -/
def execSdiv32X (dst src : Reg) (s : State) : Result :=
  s.attempt (s.alu32Reg dst src sdivOp)

/-- R264 `OR32_K`: bitwise or, immediate source. -/
def execOr32K (dst : Reg) (imm : BitVec 32) (s : State) : Result :=
  s.attempt (s.alu32Imm dst imm orOp)

/-- R265 `OR32_X`: bitwise or, register source. -/
def execOr32X (dst src : Reg) (s : State) : Result :=
  s.attempt (s.alu32Reg dst src orOp)

/-- R266 `AND32_K`: bitwise and, immediate source. -/
def execAnd32K (dst : Reg) (imm : BitVec 32) (s : State) : Result :=
  s.attempt (s.alu32Imm dst imm andOp)

/-- R267 `AND32_X`: bitwise and, register source. -/
def execAnd32X (dst src : Reg) (s : State) : Result :=
  s.attempt (s.alu32Reg dst src andOp)

/-- R268 `LSH32_K`: shift left, immediate source. -/
def execLsh32K (dst : Reg) (imm : BitVec 32) (s : State) : Result :=
  s.attempt (s.alu32Imm dst imm lsh32)

/-- R269 `LSH32_X`: shift left, register source. -/
def execLsh32X (dst src : Reg) (s : State) : Result :=
  s.attempt (s.alu32Reg dst src lsh32)

/-- R270 `RSH32_K`: logical shift right, immediate source. -/
def execRsh32K (dst : Reg) (imm : BitVec 32) (s : State) : Result :=
  s.attempt (s.alu32Imm dst imm rsh32)

/-- R271 `RSH32_X`: logical shift right, register source. -/
def execRsh32X (dst src : Reg) (s : State) : Result :=
  s.attempt (s.alu32Reg dst src rsh32)

/-- R272 `MOD32_K`: unsigned modulo, immediate source. -/
def execMod32K (dst : Reg) (imm : BitVec 32) (s : State) : Result :=
  s.attempt (s.alu32Imm dst imm modOp)

/-- R273 `MOD32_X`: unsigned modulo, register source. -/
def execMod32X (dst src : Reg) (s : State) : Result :=
  s.attempt (s.alu32Reg dst src modOp)

/-- R274 `SMOD32_K`: signed modulo, immediate source. -/
def execSmod32K (dst : Reg) (imm : BitVec 32) (s : State) : Result :=
  s.attempt (s.alu32Imm dst imm smodOp)

/-- R275 `SMOD32_X`: signed modulo, register source. -/
def execSmod32X (dst src : Reg) (s : State) : Result :=
  s.attempt (s.alu32Reg dst src smodOp)

/-- R276 `XOR32_K`: bitwise exclusive or, immediate source. -/
def execXor32K (dst : Reg) (imm : BitVec 32) (s : State) : Result :=
  s.attempt (s.alu32Imm dst imm xorOp)

/-- R277 `XOR32_X`: bitwise exclusive or, register source. -/
def execXor32X (dst src : Reg) (s : State) : Result :=
  s.attempt (s.alu32Reg dst src xorOp)

/-- R278 `MOV32_K`: the immediate becomes the destination. -/
def execMov32K (dst : Reg) (imm : BitVec 32) (s : State) : Result :=
  s.attempt (.ok ((s.writeReg dst (zext32 imm)).advance 1))

/-- R279 `MOV32_X`: the low half of the source register becomes the destination. -/
def execMov32X (dst src : Reg) (s : State) : Result :=
  s.attempt (s.move src dst (fun v => zext32 (low32 v)))

/-- R280 `ARSH32_K`: arithmetic shift right, immediate source. -/
def execArsh32K (dst : Reg) (imm : BitVec 32) (s : State) : Result :=
  s.attempt (s.alu32Imm dst imm arsh32)

/-- R281 `ARSH32_X`: arithmetic shift right, register source. -/
def execArsh32X (dst src : Reg) (s : State) : Result :=
  s.attempt (s.alu32Reg dst src arsh32)

/-- R282 `NEG32`: negate. -/
def execNeg32 (dst : Reg) (s : State) : Result :=
  s.attempt (s.negate32 dst)

/-- R283 `MOVSX32_8`: move of the low 8 bits, sign-extended to 32 bits. -/
def execMovsx32From8 (dst src : Reg) (s : State) : Result :=
  s.attempt (s.move src dst (fun v => zext32 (sext8To32 v)))

/-- R284 `MOVSX32_16`: move of the low 16 bits, sign-extended to 32 bits. -/
def execMovsx32From16 (dst src : Reg) (s : State) : Result :=
  s.attempt (s.move src dst (fun v => zext32 (sext16To32 v)))

end Sys2Proof.Machine
end

