-- ==== Sys2Proof/Machine/Alu64.lean ====
section
/-! DEFINITION. The 64-bit arithmetic instructions (`40_alu64.md`). -/

namespace Sys2Proof.Machine

/-- A 64-bit operation with `BPF_K`: `S = sext_64(imm)` (`40_alu64.md` R200, R201). -/
def State.alu64Imm (s : State) (dst : Reg) (imm : BitVec 32) (op : Word → Word → Word) : Except FaultInfo State := do
  let d ← s.readReg dst
  return (s.writeReg dst (op d (sextImm imm))).advance 1

/-- A 64-bit operation with `BPF_X`: `S = x[src]` (`40_alu64.md` R200, R201). -/
def State.alu64Reg (s : State) (dst src : Reg) (op : Word → Word → Word) : Except FaultInfo State := do
  let d ← s.readReg dst
  let v ← s.readReg src
  return (s.writeReg dst (op d v)).advance 1

/-- 64-bit negation (`40_alu64.md` R232). -/
def State.negate64 (s : State) (dst : Reg) : Except FaultInfo State := do
  let d ← s.readReg dst
  return (s.writeReg dst (negOp d)).advance 1

/-- R204 `ADD64_K`: add, immediate source. -/
def execAdd64K (dst : Reg) (imm : BitVec 32) (s : State) : Result :=
  s.attempt (s.alu64Imm dst imm addOp)

/-- R205 `ADD64_X`: add, register source. -/
def execAdd64X (dst src : Reg) (s : State) : Result :=
  s.attempt (s.alu64Reg dst src addOp)

/-- R206 `SUB64_K`: subtract, immediate source. -/
def execSub64K (dst : Reg) (imm : BitVec 32) (s : State) : Result :=
  s.attempt (s.alu64Imm dst imm subOp)

/-- R207 `SUB64_X`: subtract, register source. -/
def execSub64X (dst src : Reg) (s : State) : Result :=
  s.attempt (s.alu64Reg dst src subOp)

/-- R208 `MUL64_K`: multiply, immediate source. -/
def execMul64K (dst : Reg) (imm : BitVec 32) (s : State) : Result :=
  s.attempt (s.alu64Imm dst imm mulOp)

/-- R209 `MUL64_X`: multiply, register source. -/
def execMul64X (dst src : Reg) (s : State) : Result :=
  s.attempt (s.alu64Reg dst src mulOp)

/-- R210 `DIV64_K`: unsigned divide, immediate source. -/
def execDiv64K (dst : Reg) (imm : BitVec 32) (s : State) : Result :=
  s.attempt (s.alu64Imm dst imm divOp)

/-- R211 `DIV64_X`: unsigned divide, register source. -/
def execDiv64X (dst src : Reg) (s : State) : Result :=
  s.attempt (s.alu64Reg dst src divOp)

/-- R212 `SDIV64_K`: signed divide, immediate source. -/
def execSdiv64K (dst : Reg) (imm : BitVec 32) (s : State) : Result :=
  s.attempt (s.alu64Imm dst imm sdivOp)

/-- R213 `SDIV64_X`: signed divide, register source. -/
def execSdiv64X (dst src : Reg) (s : State) : Result :=
  s.attempt (s.alu64Reg dst src sdivOp)

/-- R214 `OR64_K`: bitwise or, immediate source. -/
def execOr64K (dst : Reg) (imm : BitVec 32) (s : State) : Result :=
  s.attempt (s.alu64Imm dst imm orOp)

/-- R215 `OR64_X`: bitwise or, register source. -/
def execOr64X (dst src : Reg) (s : State) : Result :=
  s.attempt (s.alu64Reg dst src orOp)

/-- R216 `AND64_K`: bitwise and, immediate source. -/
def execAnd64K (dst : Reg) (imm : BitVec 32) (s : State) : Result :=
  s.attempt (s.alu64Imm dst imm andOp)

/-- R217 `AND64_X`: bitwise and, register source. -/
def execAnd64X (dst src : Reg) (s : State) : Result :=
  s.attempt (s.alu64Reg dst src andOp)

/-- R218 `LSH64_K`: shift left, immediate source. -/
def execLsh64K (dst : Reg) (imm : BitVec 32) (s : State) : Result :=
  s.attempt (s.alu64Imm dst imm lsh64)

/-- R219 `LSH64_X`: shift left, register source. -/
def execLsh64X (dst src : Reg) (s : State) : Result :=
  s.attempt (s.alu64Reg dst src lsh64)

/-- R220 `RSH64_K`: logical shift right, immediate source. -/
def execRsh64K (dst : Reg) (imm : BitVec 32) (s : State) : Result :=
  s.attempt (s.alu64Imm dst imm rsh64)

/-- R221 `RSH64_X`: logical shift right, register source. -/
def execRsh64X (dst src : Reg) (s : State) : Result :=
  s.attempt (s.alu64Reg dst src rsh64)

/-- R222 `MOD64_K`: unsigned modulo, immediate source. -/
def execMod64K (dst : Reg) (imm : BitVec 32) (s : State) : Result :=
  s.attempt (s.alu64Imm dst imm modOp)

/-- R223 `MOD64_X`: unsigned modulo, register source. -/
def execMod64X (dst src : Reg) (s : State) : Result :=
  s.attempt (s.alu64Reg dst src modOp)

/-- R224 `SMOD64_K`: signed modulo, immediate source. -/
def execSmod64K (dst : Reg) (imm : BitVec 32) (s : State) : Result :=
  s.attempt (s.alu64Imm dst imm smodOp)

/-- R225 `SMOD64_X`: signed modulo, register source. -/
def execSmod64X (dst src : Reg) (s : State) : Result :=
  s.attempt (s.alu64Reg dst src smodOp)

/-- R226 `XOR64_K`: bitwise exclusive or, immediate source. -/
def execXor64K (dst : Reg) (imm : BitVec 32) (s : State) : Result :=
  s.attempt (s.alu64Imm dst imm xorOp)

/-- R227 `XOR64_X`: bitwise exclusive or, register source. -/
def execXor64X (dst src : Reg) (s : State) : Result :=
  s.attempt (s.alu64Reg dst src xorOp)

/-- R228 `MOV64_K`: the immediate becomes the destination. -/
def execMov64K (dst : Reg) (imm : BitVec 32) (s : State) : Result :=
  s.attempt (.ok ((s.writeReg dst (sextImm imm)).advance 1))

/-- R229 `MOV64_X`: the source register becomes the destination. -/
def execMov64X (dst src : Reg) (s : State) : Result :=
  s.attempt (s.move src dst id)

/-- R230 `ARSH64_K`: arithmetic shift right, immediate source. -/
def execArsh64K (dst : Reg) (imm : BitVec 32) (s : State) : Result :=
  s.attempt (s.alu64Imm dst imm arsh64)

/-- R231 `ARSH64_X`: arithmetic shift right, register source. -/
def execArsh64X (dst src : Reg) (s : State) : Result :=
  s.attempt (s.alu64Reg dst src arsh64)

/-- R232 `NEG64`: negate. -/
def execNeg64 (dst : Reg) (s : State) : Result :=
  s.attempt (s.negate64 dst)

/-- R233 `MOVSX64_8`: move of the low 8 bits, sign-extended to 64 bits. -/
def execMovsx64From8 (dst src : Reg) (s : State) : Result :=
  s.attempt (s.move src dst sext8)

/-- R234 `MOVSX64_16`: move of the low 16 bits, sign-extended to 64 bits. -/
def execMovsx64From16 (dst src : Reg) (s : State) : Result :=
  s.attempt (s.move src dst sext16)

/-- R235 `MOVSX64_32`: move of the low 32 bits, sign-extended to 64 bits. -/
def execMovsx64From32 (dst src : Reg) (s : State) : Result :=
  s.attempt (s.move src dst sext32)

end Sys2Proof.Machine
end

