-- ==== Sys2Proof/Machine/Atomic.lean ====
section
/-! DEFINITION. The atomic operations (`47_atomic.md`). -/

namespace Sys2Proof.Machine

/-- A 32-bit simple atomic operation without `BPF_FETCH` (`47_atomic.md` R440, R442). The upper halves of registers are ignored, and a value returned is zero-extended. -/
def State.atomicKeep32 (s : State) (dst src : Reg) (offset : BitVec 16) (op : BitVec 32 → BitVec 32 → BitVec 32) :
    Except FaultInfo State := do
  let base ← s.readReg dst
  let v ← s.readReg src
  let (_, t) ← s.atomicEvent (effectiveAddress base offset) .w (fun old => some (zext32 (op (low32 old) (low32 v))))
  return t.advance 1

/-- A 32-bit atomic operation with `BPF_FETCH`: the old value overwrites `src` (`47_atomic.md` R442). -/
def State.atomicFetch32 (s : State) (dst src : Reg) (offset : BitVec 16) (op : BitVec 32 → BitVec 32 → BitVec 32) :
    Except FaultInfo State := do
  let base ← s.readReg dst
  let v ← s.readReg src
  let (old, t) ← s.atomicEvent (effectiveAddress base offset) .w (fun old => some (zext32 (op (low32 old) (low32 v))))
  return (t.writeReg src (zext32 (low32 old))).advance 1

/-- 32-bit compare and exchange: on a mismatch nothing is stored; R0 takes the old value in either case
(`47_atomic.md` R459). -/
def State.atomicCompare32 (s : State) (dst src : Reg) (offset : BitVec 16) : Except FaultInfo State := do
  let base ← s.readReg dst
  let v ← s.readReg src
  let e ← s.readReg .r0
  let (old, t) ← s.atomicEvent (effectiveAddress base offset) .w
    (fun old => if low32 old = low32 e then some (zext32 (low32 v)) else none)
  return (t.writeReg .r0 (zext32 (low32 old))).advance 1

/-- A 64-bit simple atomic operation without `BPF_FETCH` (`47_atomic.md` R440, R442). -/
def State.atomicKeep64 (s : State) (dst src : Reg) (offset : BitVec 16) (op : Word → Word → Word) :
    Except FaultInfo State := do
  let base ← s.readReg dst
  let v ← s.readReg src
  let (_, t) ← s.atomicEvent (effectiveAddress base offset) .dw (fun old => some (op old v))
  return t.advance 1

/-- A 64-bit atomic operation with `BPF_FETCH`: the old value overwrites `src` (`47_atomic.md` R442). -/
def State.atomicFetch64 (s : State) (dst src : Reg) (offset : BitVec 16) (op : Word → Word → Word) :
    Except FaultInfo State := do
  let base ← s.readReg dst
  let v ← s.readReg src
  let (old, t) ← s.atomicEvent (effectiveAddress base offset) .dw (fun old => some (op old v))
  return (t.writeReg src old).advance 1

/-- 64-bit compare and exchange: on a mismatch nothing is stored; R0 takes the old value in either case
(`47_atomic.md` R469). -/
def State.atomicCompare64 (s : State) (dst src : Reg) (offset : BitVec 16) : Except FaultInfo State := do
  let base ← s.readReg dst
  let v ← s.readReg src
  let e ← s.readReg .r0
  let (old, t) ← s.atomicEvent (effectiveAddress base offset) .dw
    (fun old => if old = e then some v else none)
  return (t.writeReg .r0 old).advance 1

/-- R450 `ATOMIC_ADD32`: atomic add. -/
def execAtomicAdd32 (dst src : Reg) (offset : BitVec 16) (s : State) : Result :=
  s.attempt (s.atomicKeep32 dst src offset addOp)

/-- R451 `ATOMIC_FETCH_ADD32`: atomic add, the old value returned. -/
def execAtomicFetchAdd32 (dst src : Reg) (offset : BitVec 16) (s : State) : Result :=
  s.attempt (s.atomicFetch32 dst src offset addOp)

/-- R452 `ATOMIC_OR32`: atomic bitwise or. -/
def execAtomicOr32 (dst src : Reg) (offset : BitVec 16) (s : State) : Result :=
  s.attempt (s.atomicKeep32 dst src offset orOp)

/-- R453 `ATOMIC_FETCH_OR32`: atomic bitwise or, the old value returned. -/
def execAtomicFetchOr32 (dst src : Reg) (offset : BitVec 16) (s : State) : Result :=
  s.attempt (s.atomicFetch32 dst src offset orOp)

/-- R454 `ATOMIC_AND32`: atomic bitwise and. -/
def execAtomicAnd32 (dst src : Reg) (offset : BitVec 16) (s : State) : Result :=
  s.attempt (s.atomicKeep32 dst src offset andOp)

/-- R455 `ATOMIC_FETCH_AND32`: atomic bitwise and, the old value returned. -/
def execAtomicFetchAnd32 (dst src : Reg) (offset : BitVec 16) (s : State) : Result :=
  s.attempt (s.atomicFetch32 dst src offset andOp)

/-- R456 `ATOMIC_XOR32`: atomic bitwise exclusive or. -/
def execAtomicXor32 (dst src : Reg) (offset : BitVec 16) (s : State) : Result :=
  s.attempt (s.atomicKeep32 dst src offset xorOp)

/-- R457 `ATOMIC_FETCH_XOR32`: atomic bitwise exclusive or, the old value returned. -/
def execAtomicFetchXor32 (dst src : Reg) (offset : BitVec 16) (s : State) : Result :=
  s.attempt (s.atomicFetch32 dst src offset xorOp)

/-- R458 `ATOMIC_XCHG32`: exchange; the source register takes the old value. -/
def execAtomicXchg32 (dst src : Reg) (offset : BitVec 16) (s : State) : Result :=
  s.attempt (s.atomicFetch32 dst src offset (fun _ v => v))

/-- R459 `ATOMIC_CMPXCHG32`: compare with R0 and exchange; R0 takes the old value. -/
def execAtomicCmpxchg32 (dst src : Reg) (offset : BitVec 16) (s : State) : Result :=
  s.attempt (s.atomicCompare32 dst src offset)

/-- R460 `ATOMIC_ADD64`: atomic add. -/
def execAtomicAdd64 (dst src : Reg) (offset : BitVec 16) (s : State) : Result :=
  s.attempt (s.atomicKeep64 dst src offset addOp)

/-- R461 `ATOMIC_FETCH_ADD64`: atomic add, the old value returned. -/
def execAtomicFetchAdd64 (dst src : Reg) (offset : BitVec 16) (s : State) : Result :=
  s.attempt (s.atomicFetch64 dst src offset addOp)

/-- R462 `ATOMIC_OR64`: atomic bitwise or. -/
def execAtomicOr64 (dst src : Reg) (offset : BitVec 16) (s : State) : Result :=
  s.attempt (s.atomicKeep64 dst src offset orOp)

/-- R463 `ATOMIC_FETCH_OR64`: atomic bitwise or, the old value returned. -/
def execAtomicFetchOr64 (dst src : Reg) (offset : BitVec 16) (s : State) : Result :=
  s.attempt (s.atomicFetch64 dst src offset orOp)

/-- R464 `ATOMIC_AND64`: atomic bitwise and. -/
def execAtomicAnd64 (dst src : Reg) (offset : BitVec 16) (s : State) : Result :=
  s.attempt (s.atomicKeep64 dst src offset andOp)

/-- R465 `ATOMIC_FETCH_AND64`: atomic bitwise and, the old value returned. -/
def execAtomicFetchAnd64 (dst src : Reg) (offset : BitVec 16) (s : State) : Result :=
  s.attempt (s.atomicFetch64 dst src offset andOp)

/-- R466 `ATOMIC_XOR64`: atomic bitwise exclusive or. -/
def execAtomicXor64 (dst src : Reg) (offset : BitVec 16) (s : State) : Result :=
  s.attempt (s.atomicKeep64 dst src offset xorOp)

/-- R467 `ATOMIC_FETCH_XOR64`: atomic bitwise exclusive or, the old value returned. -/
def execAtomicFetchXor64 (dst src : Reg) (offset : BitVec 16) (s : State) : Result :=
  s.attempt (s.atomicFetch64 dst src offset xorOp)

/-- R468 `ATOMIC_XCHG64`: exchange; the source register takes the old value. -/
def execAtomicXchg64 (dst src : Reg) (offset : BitVec 16) (s : State) : Result :=
  s.attempt (s.atomicFetch64 dst src offset (fun _ v => v))

/-- R469 `ATOMIC_CMPXCHG64`: compare with R0 and exchange; R0 takes the old value. -/
def execAtomicCmpxchg64 (dst src : Reg) (offset : BitVec 16) (s : State) : Result :=
  s.attempt (s.atomicCompare64 dst src offset)

end Sys2Proof.Machine
end

