-- ==== Sys2Proof/Machine/ByteSwap.lean ====
section
/-! DEFINITION. The byte swap instructions (`42_byteswap.md`). -/

namespace Sys2Proof.Machine

/-- `v = x[dst][15:0]`, reordered by `f` and written zero-extended (`42_byteswap.md` R302). -/
def State.swap16 (s : State) (dst : Reg) (f : BitVec 16 → BitVec 16) : Except FaultInfo State := do
  let d ← s.readReg dst
  return (s.writeReg dst ((f (d.setWidth 16)).setWidth 64)).advance 1

/-- `v = x[dst][31:0]`, reordered by `f` and written zero-extended (`42_byteswap.md` R302). -/
def State.swap32 (s : State) (dst : Reg) (f : BitVec 32 → BitVec 32) : Except FaultInfo State := do
  let d ← s.readReg dst
  return (s.writeReg dst ((f (d.setWidth 32)).setWidth 64)).advance 1

/-- `v = x[dst][63:0]`, reordered by `f` and written zero-extended (`42_byteswap.md` R302). -/
def State.swap64 (s : State) (dst : Reg) (f : BitVec 64 → BitVec 64) : Except FaultInfo State := do
  let d ← s.readReg dst
  return (s.writeReg dst ((f (d.setWidth 64)).setWidth 64)).advance 1

/-- R303 `LE16`: the low 16 bits between host order and little endian. -/
def execLe16 (dst : Reg) (s : State) : Result :=
  s.attempt (s.swap16 dst (convertOrder s.cfg.endian .little bswap16))

/-- R304 `LE32`: the low 32 bits between host order and little endian. -/
def execLe32 (dst : Reg) (s : State) : Result :=
  s.attempt (s.swap32 dst (convertOrder s.cfg.endian .little bswap32))

/-- R305 `LE64`: the low 64 bits between host order and little endian. -/
def execLe64 (dst : Reg) (s : State) : Result :=
  s.attempt (s.swap64 dst (convertOrder s.cfg.endian .little bswap64))

/-- R306 `BE16`: the low 16 bits between host order and big endian. -/
def execBe16 (dst : Reg) (s : State) : Result :=
  s.attempt (s.swap16 dst (convertOrder s.cfg.endian .big bswap16))

/-- R307 `BE32`: the low 32 bits between host order and big endian. -/
def execBe32 (dst : Reg) (s : State) : Result :=
  s.attempt (s.swap32 dst (convertOrder s.cfg.endian .big bswap32))

/-- R308 `BE64`: the low 64 bits between host order and big endian. -/
def execBe64 (dst : Reg) (s : State) : Result :=
  s.attempt (s.swap64 dst (convertOrder s.cfg.endian .big bswap64))

/-- R309 `BSWAP16`: the low 16 bits reversed by bytes, whatever the host order. -/
def execBswap16 (dst : Reg) (s : State) : Result :=
  s.attempt (s.swap16 dst bswap16)

/-- R310 `BSWAP32`: the low 32 bits reversed by bytes, whatever the host order. -/
def execBswap32 (dst : Reg) (s : State) : Result :=
  s.attempt (s.swap32 dst bswap32)

/-- R311 `BSWAP64`: the low 64 bits reversed by bytes, whatever the host order. -/
def execBswap64 (dst : Reg) (s : State) : Result :=
  s.attempt (s.swap64 dst bswap64)

end Sys2Proof.Machine
end

