-- ==== Sys2Proof/Machine/CallExit.lean ====
section
/-! DEFINITION. Calls and exit (`45_call_exit.md`). -/

namespace Sys2Proof.Machine

/-- `EXIT`: the end of the run in the entry activation, the return to the caller in a callee (`45_call_exit.md` R393).
R0 is read in both cases. -/
def State.leaveOrFinish (s : State) : Except FaultInfo State := do
  let v ← s.readReg .r0
  match s.frames with
  | [] => return s.finish v
  | f :: rest => return s.leave f rest

/-- R390 `CALL_HELPER`: call of a helper function by its identifier. -/
def execCallHelper (imm : BitVec 32) (s : State) : Result :=
  s.attempt (s.callHelper .helpers imm)

/-- R391 `CALL_LOCAL`: call of a program-local function. -/
def execCallLocal (offset : BitVec 16) (imm : BitVec 32) (s : State) : Result :=
  s.attempt (s.callLocal (callDisplacement s.cfg offset imm))

/-- R392 `CALL_BTF`: call of a helper function by its BTF ID. -/
def execCallBtf (imm : BitVec 32) (s : State) : Result :=
  s.attempt (s.callHelper .btfHelpers imm)

/-- R393 `EXIT`: return, or end of the run. -/
def execExit (s : State) : Result :=
  s.attempt s.leaveOrFinish

end Sys2Proof.Machine
end

