-- ==== Sys2Proof/Machine/Imm64.lean ====
section
/-! DEFINITION. The wide loads of 64-bit immediates (`48_imm64.md`). -/

namespace Sys2Proof.Machine

/-- `x[dst] <- v; pc <- pc + 2`: how every instruction of the family ends (`48_imm64.md` R480). -/
def State.loadWide (s : State) (dst : Reg) (v : Word) : State := (s.writeReg dst v).advance 2

/-- What a platform address function gives, or `UnresolvedReference` where it is not defined
(`60_exceptions.md` R519). -/
def State.resolve (s : State) (subtype : RefSubtype) (arg : BitVec 32) (v : Option Word) : Except FaultInfo Word :=
  match v with
  | some a => .ok a
  | none => .error (.unresolvedReference s.pc subtype arg)

/-- `MAP_VAL(m) + next_imm`, the offset taken as unsigned (`48_imm64.md` R483, R487). -/
def State.mapValue (s : State) (subtype : RefSubtype) (arg : BitVec 32) (map : Option Word) (nextImm : BitVec 32) :
    Except FaultInfo Word := do
  let m ← s.resolve subtype arg map
  let first ← s.resolve subtype arg (s.cfg.mapVal.lookup m)
  return first + zext32 nextImm

/-- A wide load of an address that the platform resolves. -/
def State.loadRef (s : State) (dst : Reg) (v : Except FaultInfo Word) : Except FaultInfo State := do
  let a ← v
  return s.loadWide dst a

/-- R481 `LDDW`: the 64-bit immediate. -/
def execLddw (dst : Reg) (imm nextImm : BitVec 32) (s : State) : Result :=
  s.attempt (.ok (s.loadWide dst (wideImm imm nextImm)))

/-- R482 `LD_MAP_FD`: the address of a map by file descriptor. -/
def execLdMapFd (dst : Reg) (imm : BitVec 32) (s : State) : Result :=
  s.attempt (s.loadRef dst (s.resolve .mapFd imm (s.cfg.mapByFd.lookup imm)))

/-- R483 `LD_MAP_VAL_FD`: an address in the value of a map, by file descriptor. -/
def execLdMapValFd (dst : Reg) (imm nextImm : BitVec 32) (s : State) : Result :=
  s.attempt (s.loadRef dst (s.mapValue .mapValFd imm (s.cfg.mapByFd.lookup imm) nextImm))

/-- R484 `LD_VAR_ADDR`: the address of a platform variable. -/
def execLdVarAddr (dst : Reg) (imm : BitVec 32) (s : State) : Result :=
  s.attempt (s.loadRef dst (s.resolve .varAddr imm (s.cfg.varAddr.lookup imm)))

/-- R485 `LD_CODE_ADDR`: the address the platform gives an instruction. -/
def execLdCodeAddr (dst : Reg) (imm : BitVec 32) (s : State) : Result :=
  s.attempt (s.loadRef dst (s.resolve .codeAddr imm (s.cfg.codeAddr.lookup (s.pc, imm))))

/-- R486 `LD_MAP_IDX`: the address of a map by index. -/
def execLdMapIdx (dst : Reg) (imm : BitVec 32) (s : State) : Result :=
  s.attempt (s.loadRef dst (s.resolve .mapIdx imm (s.cfg.mapByIdx.lookup imm)))

/-- R487 `LD_MAP_VAL_IDX`: an address in the value of a map, by index. -/
def execLdMapValIdx (dst : Reg) (imm nextImm : BitVec 32) (s : State) : Result :=
  s.attempt (s.loadRef dst (s.mapValue .mapValIdx imm (s.cfg.mapByIdx.lookup imm) nextImm))

end Sys2Proof.Machine
end

