-- ==== Sys2Proof/Machine/Branch.lean ====
section
/-! DEFINITION. Where a conditional jump continues. -/

namespace Sys2Proof.Machine

/-- Where a conditional jump goes: `pc + 1 + offset` if the condition holds, else `pc + 1` (`43_jump64.md` R320). -/
def State.branch (s : State) (offset : BitVec 16) (taken : Bool) : State :=
  s.goto (if taken then jumpTarget s.pc offset.toInt else s.pc + 1)


end Sys2Proof.Machine
end

