-- ==== Sys2Proof/Machine/Flags.lean ====
section
/-! DEFINITION. The machine has no flags and no condition codes (`10_state.md` R39): a conditional jump compares its two
operands itself. These are the eleven comparisons, at any width (`30_encoding.md` R124). -/

namespace Sys2Proof.Machine

/-- `BPF_JEQ`. -/
def condEq {w : Nat} (d s : BitVec w) : Bool := d == s

/-- `BPF_JNE`. -/
def condNe {w : Nat} (d s : BitVec w) : Bool := d != s

/-- `BPF_JGT`, unsigned. -/
def condGt {w : Nat} (d s : BitVec w) : Bool := decide (s.toNat < d.toNat)

/-- `BPF_JGE`, unsigned. -/
def condGe {w : Nat} (d s : BitVec w) : Bool := decide (s.toNat ≤ d.toNat)

/-- `BPF_JLT`, unsigned. -/
def condLt {w : Nat} (d s : BitVec w) : Bool := decide (d.toNat < s.toNat)

/-- `BPF_JLE`, unsigned. -/
def condLe {w : Nat} (d s : BitVec w) : Bool := decide (d.toNat ≤ s.toNat)

/-- `BPF_JSET`: some bit is set in both. -/
def condSet {w : Nat} (d s : BitVec w) : Bool := d &&& s != 0

/-- `BPF_JSGT`, signed. -/
def condSgt {w : Nat} (d s : BitVec w) : Bool := decide (s.toInt < d.toInt)

/-- `BPF_JSGE`, signed. -/
def condSge {w : Nat} (d s : BitVec w) : Bool := decide (s.toInt ≤ d.toInt)

/-- `BPF_JSLT`, signed. -/
def condSlt {w : Nat} (d s : BitVec w) : Bool := decide (d.toInt < s.toInt)

/-- `BPF_JSLE`, signed. -/
def condSle {w : Nat} (d s : BitVec w) : Bool := decide (d.toInt ≤ s.toInt)

end Sys2Proof.Machine
end

