-- ==== Sys2Proof/Machine/Jump32.lean ====
section
/-! DEFINITION. The 32-bit jump instructions (`44_jump32.md`). -/

namespace Sys2Proof.Machine

/-- A 32-bit conditional jump with `BPF_K`: `B = imm[31:0]` (`44_jump32.md` R360, R361). -/
def State.jump32Imm (s : State) (dst : Reg) (offset : BitVec 16) (imm : BitVec 32)
    (cond : BitVec 32 → BitVec 32 → Bool) : Except FaultInfo State := do
  let a ← s.readReg dst
  return s.branch offset (cond (low32 a) imm)

/-- A 32-bit conditional jump with `BPF_X`: `B = x[src][31:0]` (`44_jump32.md` R360, R361). -/
def State.jump32Reg (s : State) (dst src : Reg) (offset : BitVec 16) (cond : BitVec 32 → BitVec 32 → Bool) :
    Except FaultInfo State := do
  let a ← s.readReg dst
  let b ← s.readReg src
  return s.branch offset (cond (low32 a) (low32 b))

/-- R363 `JA32`: jump always by `imm` slots. -/
def execJa32 (imm : BitVec 32) (s : State) : Result :=
  s.attempt (.ok (s.goto (jumpTarget s.pc imm.toInt)))

/-- R364 `JEQ32_K`: jump if equal, immediate second operand. -/
def execJeq32K (dst : Reg) (offset : BitVec 16) (imm : BitVec 32) (s : State) : Result :=
  s.attempt (s.jump32Imm dst offset imm condEq)

/-- R365 `JEQ32_X`: jump if equal, register second operand. -/
def execJeq32X (dst src : Reg) (offset : BitVec 16) (s : State) : Result :=
  s.attempt (s.jump32Reg dst src offset condEq)

/-- R366 `JGT32_K`: jump if greater, unsigned, immediate second operand. -/
def execJgt32K (dst : Reg) (offset : BitVec 16) (imm : BitVec 32) (s : State) : Result :=
  s.attempt (s.jump32Imm dst offset imm condGt)

/-- R367 `JGT32_X`: jump if greater, unsigned, register second operand. -/
def execJgt32X (dst src : Reg) (offset : BitVec 16) (s : State) : Result :=
  s.attempt (s.jump32Reg dst src offset condGt)

/-- R368 `JGE32_K`: jump if greater or equal, unsigned, immediate second operand. -/
def execJge32K (dst : Reg) (offset : BitVec 16) (imm : BitVec 32) (s : State) : Result :=
  s.attempt (s.jump32Imm dst offset imm condGe)

/-- R369 `JGE32_X`: jump if greater or equal, unsigned, register second operand. -/
def execJge32X (dst src : Reg) (offset : BitVec 16) (s : State) : Result :=
  s.attempt (s.jump32Reg dst src offset condGe)

/-- R370 `JSET32_K`: jump if a common bit is set, immediate second operand. -/
def execJset32K (dst : Reg) (offset : BitVec 16) (imm : BitVec 32) (s : State) : Result :=
  s.attempt (s.jump32Imm dst offset imm condSet)

/-- R371 `JSET32_X`: jump if a common bit is set, register second operand. -/
def execJset32X (dst src : Reg) (offset : BitVec 16) (s : State) : Result :=
  s.attempt (s.jump32Reg dst src offset condSet)

/-- R372 `JNE32_K`: jump if not equal, immediate second operand. -/
def execJne32K (dst : Reg) (offset : BitVec 16) (imm : BitVec 32) (s : State) : Result :=
  s.attempt (s.jump32Imm dst offset imm condNe)

/-- R373 `JNE32_X`: jump if not equal, register second operand. -/
def execJne32X (dst src : Reg) (offset : BitVec 16) (s : State) : Result :=
  s.attempt (s.jump32Reg dst src offset condNe)

/-- R374 `JSGT32_K`: jump if greater, signed, immediate second operand. -/
def execJsgt32K (dst : Reg) (offset : BitVec 16) (imm : BitVec 32) (s : State) : Result :=
  s.attempt (s.jump32Imm dst offset imm condSgt)

/-- R375 `JSGT32_X`: jump if greater, signed, register second operand. -/
def execJsgt32X (dst src : Reg) (offset : BitVec 16) (s : State) : Result :=
  s.attempt (s.jump32Reg dst src offset condSgt)

/-- R376 `JSGE32_K`: jump if greater or equal, signed, immediate second operand. -/
def execJsge32K (dst : Reg) (offset : BitVec 16) (imm : BitVec 32) (s : State) : Result :=
  s.attempt (s.jump32Imm dst offset imm condSge)

/-- R377 `JSGE32_X`: jump if greater or equal, signed, register second operand. -/
def execJsge32X (dst src : Reg) (offset : BitVec 16) (s : State) : Result :=
  s.attempt (s.jump32Reg dst src offset condSge)

/-- R378 `JLT32_K`: jump if less, unsigned, immediate second operand. -/
def execJlt32K (dst : Reg) (offset : BitVec 16) (imm : BitVec 32) (s : State) : Result :=
  s.attempt (s.jump32Imm dst offset imm condLt)

/-- R379 `JLT32_X`: jump if less, unsigned, register second operand. -/
def execJlt32X (dst src : Reg) (offset : BitVec 16) (s : State) : Result :=
  s.attempt (s.jump32Reg dst src offset condLt)

/-- R380 `JLE32_K`: jump if less or equal, unsigned, immediate second operand. -/
def execJle32K (dst : Reg) (offset : BitVec 16) (imm : BitVec 32) (s : State) : Result :=
  s.attempt (s.jump32Imm dst offset imm condLe)

/-- R381 `JLE32_X`: jump if less or equal, unsigned, register second operand. -/
def execJle32X (dst src : Reg) (offset : BitVec 16) (s : State) : Result :=
  s.attempt (s.jump32Reg dst src offset condLe)

/-- R382 `JSLT32_K`: jump if less, signed, immediate second operand. -/
def execJslt32K (dst : Reg) (offset : BitVec 16) (imm : BitVec 32) (s : State) : Result :=
  s.attempt (s.jump32Imm dst offset imm condSlt)

/-- R383 `JSLT32_X`: jump if less, signed, register second operand. -/
def execJslt32X (dst src : Reg) (offset : BitVec 16) (s : State) : Result :=
  s.attempt (s.jump32Reg dst src offset condSlt)

/-- R384 `JSLE32_K`: jump if less or equal, signed, immediate second operand. -/
def execJsle32K (dst : Reg) (offset : BitVec 16) (imm : BitVec 32) (s : State) : Result :=
  s.attempt (s.jump32Imm dst offset imm condSle)

/-- R385 `JSLE32_X`: jump if less or equal, signed, register second operand. -/
def execJsle32X (dst src : Reg) (offset : BitVec 16) (s : State) : Result :=
  s.attempt (s.jump32Reg dst src offset condSle)

end Sys2Proof.Machine
end

