-- ==== Sys2Proof/Machine/Jump64.lean ====
section
/-! DEFINITION. The 64-bit jump instructions (`43_jump64.md`). -/

namespace Sys2Proof.Machine

/-- A 64-bit conditional jump with `BPF_K`: `B = sext_64(imm)` (`43_jump64.md` R320, R321). -/
def State.jump64Imm (s : State) (dst : Reg) (offset : BitVec 16) (imm : BitVec 32) (cond : Word → Word → Bool) :
    Except FaultInfo State := do
  let a ← s.readReg dst
  return s.branch offset (cond a (sextImm imm))

/-- A 64-bit conditional jump with `BPF_X`: `B = x[src]` (`43_jump64.md` R320, R321). -/
def State.jump64Reg (s : State) (dst src : Reg) (offset : BitVec 16) (cond : Word → Word → Bool) :
    Except FaultInfo State := do
  let a ← s.readReg dst
  let b ← s.readReg src
  return s.branch offset (cond a b)

/-- R323 `JA`: jump always by `offset` slots. -/
def execJa (offset : BitVec 16) (s : State) : Result :=
  s.attempt (.ok (s.goto (jumpTarget s.pc offset.toInt)))

/-- R324 `JEQ64_K`: jump if equal, immediate second operand. -/
def execJeq64K (dst : Reg) (offset : BitVec 16) (imm : BitVec 32) (s : State) : Result :=
  s.attempt (s.jump64Imm dst offset imm condEq)

/-- R325 `JEQ64_X`: jump if equal, register second operand. -/
def execJeq64X (dst src : Reg) (offset : BitVec 16) (s : State) : Result :=
  s.attempt (s.jump64Reg dst src offset condEq)

/-- R326 `JGT64_K`: jump if greater, unsigned, immediate second operand. -/
def execJgt64K (dst : Reg) (offset : BitVec 16) (imm : BitVec 32) (s : State) : Result :=
  s.attempt (s.jump64Imm dst offset imm condGt)

/-- R327 `JGT64_X`: jump if greater, unsigned, register second operand. -/
def execJgt64X (dst src : Reg) (offset : BitVec 16) (s : State) : Result :=
  s.attempt (s.jump64Reg dst src offset condGt)

/-- R328 `JGE64_K`: jump if greater or equal, unsigned, immediate second operand. -/
def execJge64K (dst : Reg) (offset : BitVec 16) (imm : BitVec 32) (s : State) : Result :=
  s.attempt (s.jump64Imm dst offset imm condGe)

/-- R329 `JGE64_X`: jump if greater or equal, unsigned, register second operand. -/
def execJge64X (dst src : Reg) (offset : BitVec 16) (s : State) : Result :=
  s.attempt (s.jump64Reg dst src offset condGe)

/-- R330 `JSET64_K`: jump if a common bit is set, immediate second operand. -/
def execJset64K (dst : Reg) (offset : BitVec 16) (imm : BitVec 32) (s : State) : Result :=
  s.attempt (s.jump64Imm dst offset imm condSet)

/-- R331 `JSET64_X`: jump if a common bit is set, register second operand. -/
def execJset64X (dst src : Reg) (offset : BitVec 16) (s : State) : Result :=
  s.attempt (s.jump64Reg dst src offset condSet)

/-- R332 `JNE64_K`: jump if not equal, immediate second operand. -/
def execJne64K (dst : Reg) (offset : BitVec 16) (imm : BitVec 32) (s : State) : Result :=
  s.attempt (s.jump64Imm dst offset imm condNe)

/-- R333 `JNE64_X`: jump if not equal, register second operand. -/
def execJne64X (dst src : Reg) (offset : BitVec 16) (s : State) : Result :=
  s.attempt (s.jump64Reg dst src offset condNe)

/-- R334 `JSGT64_K`: jump if greater, signed, immediate second operand. -/
def execJsgt64K (dst : Reg) (offset : BitVec 16) (imm : BitVec 32) (s : State) : Result :=
  s.attempt (s.jump64Imm dst offset imm condSgt)

/-- R335 `JSGT64_X`: jump if greater, signed, register second operand. -/
def execJsgt64X (dst src : Reg) (offset : BitVec 16) (s : State) : Result :=
  s.attempt (s.jump64Reg dst src offset condSgt)

/-- R336 `JSGE64_K`: jump if greater or equal, signed, immediate second operand. -/
def execJsge64K (dst : Reg) (offset : BitVec 16) (imm : BitVec 32) (s : State) : Result :=
  s.attempt (s.jump64Imm dst offset imm condSge)

/-- R337 `JSGE64_X`: jump if greater or equal, signed, register second operand. -/
def execJsge64X (dst src : Reg) (offset : BitVec 16) (s : State) : Result :=
  s.attempt (s.jump64Reg dst src offset condSge)

/-- R338 `JLT64_K`: jump if less, unsigned, immediate second operand. -/
def execJlt64K (dst : Reg) (offset : BitVec 16) (imm : BitVec 32) (s : State) : Result :=
  s.attempt (s.jump64Imm dst offset imm condLt)

/-- R339 `JLT64_X`: jump if less, unsigned, register second operand. -/
def execJlt64X (dst src : Reg) (offset : BitVec 16) (s : State) : Result :=
  s.attempt (s.jump64Reg dst src offset condLt)

/-- R340 `JLE64_K`: jump if less or equal, unsigned, immediate second operand. -/
def execJle64K (dst : Reg) (offset : BitVec 16) (imm : BitVec 32) (s : State) : Result :=
  s.attempt (s.jump64Imm dst offset imm condLe)

/-- R341 `JLE64_X`: jump if less or equal, unsigned, register second operand. -/
def execJle64X (dst src : Reg) (offset : BitVec 16) (s : State) : Result :=
  s.attempt (s.jump64Reg dst src offset condLe)

/-- R342 `JSLT64_K`: jump if less, signed, immediate second operand. -/
def execJslt64K (dst : Reg) (offset : BitVec 16) (imm : BitVec 32) (s : State) : Result :=
  s.attempt (s.jump64Imm dst offset imm condSlt)

/-- R343 `JSLT64_X`: jump if less, signed, register second operand. -/
def execJslt64X (dst src : Reg) (offset : BitVec 16) (s : State) : Result :=
  s.attempt (s.jump64Reg dst src offset condSlt)

/-- R344 `JSLE64_K`: jump if less or equal, signed, immediate second operand. -/
def execJsle64K (dst : Reg) (offset : BitVec 16) (imm : BitVec 32) (s : State) : Result :=
  s.attempt (s.jump64Imm dst offset imm condSle)

/-- R345 `JSLE64_X`: jump if less or equal, signed, register second operand. -/
def execJsle64X (dst src : Reg) (offset : BitVec 16) (s : State) : Result :=
  s.attempt (s.jump64Reg dst src offset condSle)

end Sys2Proof.Machine
end

