-- ==== Sys2Proof/Machine/Legacy.lean ====
section
/-! DEFINITION. The legacy packet access instructions: recognised and refused by the spec itself, with a fault
(`49_legacy_packet.md` R500). -/

namespace Sys2Proof.Machine

/-- `raise IllegalInstruction(pc, W)` with the logical word of the instruction itself (`49_legacy_packet.md` R500). -/
def State.raiseLegacy (s : State) (i : Instr) : Except FaultInfo State :=
  .error (.illegalInstruction s.pc i.fields.word none)

/-- R500 `LD_ABS`: always `IllegalInstruction`. -/
def execLdAbs (size : MemSize) (dst src : BitVec 4) (offset : BitVec 16) (imm : BitVec 32) (s : State) : Result :=
  s.attempt (s.raiseLegacy (.ldAbs size dst src offset imm))

/-- R500 `LD_IND`: always `IllegalInstruction`. -/
def execLdInd (size : MemSize) (dst src : BitVec 4) (offset : BitVec 16) (imm : BitVec 32) (s : State) : Result :=
  s.attempt (s.raiseLegacy (.ldInd size dst src offset imm))

end Sys2Proof.Machine
end

