-- ==== Sys2Proof/Machine/LoadStore.lean ====
section
/-! DEFINITION. The loads and stores (`46_load_store.md`). -/

namespace Sys2Proof.Machine

/-- A load (`46_load_store.md` R410): the value read is a u(8n), so `id` zero-extends it. The address is formed from the
old value of `src` also when dst = src (`70_reset_and_hazards.md` R582). -/
def State.load (s : State) (dst src : Reg) (offset : BitVec 16) (n : MemSize) (extend : Word → Word) :
    Except FaultInfo State := do
  let base ← s.readReg src
  let v ← s.memRead (effectiveAddress base offset) n
  return ((s.writeReg dst (extend v)).advance 1).drawn

/-- A store of `sext_64(imm)` (`46_load_store.md` R410). -/
def State.storeImm (s : State) (dst : Reg) (offset : BitVec 16) (imm : BitVec 32) (n : MemSize) :
    Except FaultInfo State := do
  let base ← s.readReg dst
  let t ← s.memWrite (effectiveAddress base offset) n (sextImm imm)
  return t.advance 1

/-- A store of a register (`46_load_store.md` R410). -/
def State.storeReg (s : State) (dst src : Reg) (offset : BitVec 16) (n : MemSize) : Except FaultInfo State := do
  let base ← s.readReg dst
  let v ← s.readReg src
  let t ← s.memWrite (effectiveAddress base offset) n v
  return t.advance 1

/-- R411 `LDXB`: load of 1 byte, zero-extended. -/
def execLdxb (dst src : Reg) (offset : BitVec 16) (s : State) : Result :=
  s.attempt (s.load dst src offset .b id)

/-- R412 `LDXH`: load of 2 bytes, zero-extended. -/
def execLdxh (dst src : Reg) (offset : BitVec 16) (s : State) : Result :=
  s.attempt (s.load dst src offset .h id)

/-- R413 `LDXW`: load of 4 bytes, zero-extended. -/
def execLdxw (dst src : Reg) (offset : BitVec 16) (s : State) : Result :=
  s.attempt (s.load dst src offset .w id)

/-- R414 `LDXDW`: load of 8 bytes, zero-extended. -/
def execLdxdw (dst src : Reg) (offset : BitVec 16) (s : State) : Result :=
  s.attempt (s.load dst src offset .dw id)

/-- R415 `LDXSB`: load of 1 byte, sign-extended. -/
def execLdxsb (dst src : Reg) (offset : BitVec 16) (s : State) : Result :=
  s.attempt (s.load dst src offset .b sext8)

/-- R416 `LDXSH`: load of 2 bytes, sign-extended. -/
def execLdxsh (dst src : Reg) (offset : BitVec 16) (s : State) : Result :=
  s.attempt (s.load dst src offset .h sext16)

/-- R417 `LDXSW`: load of 4 bytes, sign-extended. -/
def execLdxsw (dst src : Reg) (offset : BitVec 16) (s : State) : Result :=
  s.attempt (s.load dst src offset .w sext32)

/-- R418 `STB`: store of the immediate, 1 byte. -/
def execStb (dst : Reg) (offset : BitVec 16) (imm : BitVec 32) (s : State) : Result :=
  s.attempt (s.storeImm dst offset imm .b)

/-- R419 `STH`: store of the immediate, 2 bytes. -/
def execSth (dst : Reg) (offset : BitVec 16) (imm : BitVec 32) (s : State) : Result :=
  s.attempt (s.storeImm dst offset imm .h)

/-- R420 `STW`: store of the immediate, 4 bytes. -/
def execStw (dst : Reg) (offset : BitVec 16) (imm : BitVec 32) (s : State) : Result :=
  s.attempt (s.storeImm dst offset imm .w)

/-- R421 `STDW`: store of the immediate, 8 bytes. -/
def execStdw (dst : Reg) (offset : BitVec 16) (imm : BitVec 32) (s : State) : Result :=
  s.attempt (s.storeImm dst offset imm .dw)

/-- R422 `STXB`: store of the low 1 byte of a register. -/
def execStxb (dst src : Reg) (offset : BitVec 16) (s : State) : Result :=
  s.attempt (s.storeReg dst src offset .b)

/-- R423 `STXH`: store of the low 2 bytes of a register. -/
def execStxh (dst src : Reg) (offset : BitVec 16) (s : State) : Result :=
  s.attempt (s.storeReg dst src offset .h)

/-- R424 `STXW`: store of the low 4 bytes of a register. -/
def execStxw (dst src : Reg) (offset : BitVec 16) (s : State) : Result :=
  s.attempt (s.storeReg dst src offset .w)

/-- R425 `STXDW`: store of the low 8 bytes of a register. -/
def execStxdw (dst src : Reg) (offset : BitVec 16) (s : State) : Result :=
  s.attempt (s.storeReg dst src offset .dw)

end Sys2Proof.Machine
end

