-- ==== Sys2Proof/Machine/Fetch.lean ====
section
/-! DEFINITION. Fetching and decoding the instruction at pc (`10_state.md` R38, `60_exceptions.md` R513, R514). -/

namespace Sys2Proof.Machine

/-- `IllegalInstruction(pc, W)`, with W2 for opcode 0x18 when a second slot exists (`60_exceptions.md` R511). -/
def State.illegalAt (s : State) (slot : Slot) (rest : List Slot) : FaultInfo :=
  let f := slot.fields s.cfg.endian
  .illegalInstruction s.pc f.word
    (if f.opcode = 0x18 then rest.head?.map (fun t => (t.fields s.cfg.endian).word) else none)

/-- The instruction at pc, or the fault of the fetch or of the decode. -/
def State.fetch (s : State) : Except FaultInfo Instr :=
  if s.pc < 0 then .error (.pcOutOfRange s.pc)
  else
    match s.prog.drop s.pc.toNat with
    | [] => .error (.pcOutOfRange s.pc)
    | slot :: rest =>
      match decode s.cfg.endian s.cfg.localCallDisp (slot :: rest) with
      | .ok i => .ok i
      | .error _ => .error (s.illegalAt slot rest)

/-- Program text with two slots placed at index n, slots of zeros before them where the text is too short. -/
def placeSlots (prog : List Slot) (n : Nat) (two : List Slot) : List Slot :=
  prog.take n ++ List.replicate (n - prog.length) ⟨0, 0, 0, 0, 0, 0, 0, 0⟩ ++ two ++ prog.drop (n + two.length)

end Sys2Proof.Machine
end

