-- ==== Sys2Proof/Machine/Step.lean ====
section
/-! DEFINITION. One step of an execution (`00_scope.md` R12), and the placing of an instruction where it fetches. -/

namespace Sys2Proof.Machine

/-- Only `Running` executions step (`10_state.md` R42). A step fetches the slot at pc, decodes it, and performs the
instruction's rule or raises a fault (R12). -/
def step (s : State) : Host.Outcome State Fault Refusal :=
  match s.status with
  | .exited _ => .fault .alreadyExited
  | .faulted _ => .fault .alreadyFaulted
  | .running =>
    match s.fetch with
    | .error k => .next (s.raise k)
    | .ok i => exec i s

/-- `s` with the instruction of a table word stored where `step` fetches next: in the program text at pc (at slot 0 for
a negative pc), in the byte order of `s`, with the status `Running` (log entry 5). -/
def State.withFetchWord (s : State) (nbits w : Nat) : State :=
  { s with
    prog := placeSlots s.prog s.pc.toNat (tableSlots s.cfg.endian nbits w)
    pc := s.pc.toNat
    status := .running }

end Sys2Proof.Machine
end

