-- ==== Sys2Proof/Safety.lean ====
section
/-! DEFINITION. What a launch must satisfy, what every reachable state satisfies, and which end of a run is good, in the
terms that statements use. -/

namespace Sys2Proof.Machine

/-! ### Launch obligations (`70_reset_and_hazards.md` R570) -/

/-- Two regions have no byte in common. -/
def regionsApart (g h : Region) : Bool :=
  g.length == 0 || h.length == 0 || decide (g.base.toNat + g.length ≤ h.base.toNat) ||
    decide (h.base.toNat + h.length ≤ g.base.toNat)

/-- No two regions of the list have a byte in common. -/
def allApart : List Region → Bool
  | [] => true
  | g :: gs => gs.all (regionsApart g) && allApart gs

/-- R570 (2): the stack parameters. -/
def stackParametersOk (c : Config) : Bool :=
  decide (0 < c.stackSize) && c.stackSize % 8 == 0 && decide (1 ≤ c.maxCallDepth) && c.stackTop.toNat % 8 == 0 &&
    decide (c.stackSize * c.maxCallDepth ≤ c.stackTop.toNat)

/-- R570 (3): the regions end inside the address space and overlap neither one another nor the stack area. -/
def regionsOk (c : Config) : Bool :=
  c.regions.all (fun g => decide (g.base.toNat + g.length ≤ 2 ^ 64)) && allApart (areas c)

/-- R570 (4): the entry arguments. -/
def entryArgsOk (entryArgs : List Word) : Bool := decide (entryArgs.length ≤ 5)

/-- The launch obligations of R570, a precondition of `State.launch` that no step checks (log entry 20): (2), (3) and
(4). A launch satisfies (1) and (5) by the form of its arguments, and (6) concerns addresses that a program is meant to
use, which the machine does not check. -/
def launchOk (c : Config) (entryArgs : List Word) : Bool :=
  stackParametersOk c && regionsOk c && entryArgsOk entryArgs

/-! ### The invariant of an execution -/

/-- R10 of the activation with `depth` activations below it (`20_memory.md` R80). -/
def framePointerAt (c : Config) (depth : Nat) : Word := c.stackTop - BitVec.ofNat 64 (c.stackSize * depth)

/-- Every record of the call stack holds the frame pointer of its own depth (`10_state.md` R40). -/
def recordsOk (c : Config) : List Frame → Bool
  | [] => true
  | f :: fs => decide (f.fp = framePointerAt c fs.length) && recordsOk c fs

/-- What every step keeps: memory is in its canonical form, at most `MAX_CALL_DEPTH` activations are live
(`10_state.md` R40), and R10 is the frame pointer of the current depth (R32, R40). -/
def State.inv (s : State) : Bool :=
  s.mem.wf && decide (s.frames.length + 1 ≤ s.cfg.maxCallDepth) &&
    decide (s.regs.r10 = framePointerAt s.cfg s.frames.length) && recordsOk s.cfg s.frames

/-! ### The end of a run -/

/-- The one good end (`70_reset_and_hazards.md` R565). -/
def State.exitedWith (s : State) (v : Word) : Bool := decide (s.status = .exited v)

/-- The execution is over (`10_state.md` R42). -/
def State.over (s : State) : Bool := decide (s.status ≠ .running)

end Sys2Proof.Machine
end

