-- ==== Sys2Proof/Certificates/Slice0/Obligations.lean ====
section
/-! DEFINITION. The statements for the provers. Each says what a rule of `spec/` says, on integers and bytes, and not by
calling the meaning it is about. -/

namespace Sys2Proof.Claims

open Sys2Proof.Machine

/-! ### Next states -/

/-- `x[dst] <- v; pc <- pc + n`, and nothing else. For dst = R10, which no decodable instruction names where it writes,
the register file stays as it is (log entry 17). -/
def wrote (s : State) (dst : Reg) (v : Word) (n : Int) : State :=
  { s with regs := s.regs.put dst (some v), pc := s.pc + n }

/-- `pc <- t`, and nothing else. -/
def jumped (s : State) (t : Int) : State := { s with pc := t }

/-- `status <- Faulted(k)`, and nothing else (`60_exceptions.md` R512). -/
def faulted (s : State) (k : FaultInfo) : State := { s with status := .faulted k }

/-- The status of a fault. -/
def isFault : Status → Bool
  | .faulted _ => true
  | _ => false

/-- R1 to R5 without a value. -/
def argsLost (f : RegFile) : RegFile := { f with r1 := none, r2 := none, r3 := none, r4 := none, r5 := none }

/-! ### Arithmetic on integers, reduced to a width (`00_scope.md` R7 to R9) -/

def sumOf {w : Nat} (d v : BitVec w) : BitVec w := BitVec.ofNat w (d.toNat + v.toNat)
def differenceOf {w : Nat} (d v : BitVec w) : BitVec w := BitVec.ofInt w ((d.toNat : Int) - v.toNat)
def productOf {w : Nat} (d v : BitVec w) : BitVec w := BitVec.ofNat w (d.toNat * v.toNat)
def disjunctionOf {w : Nat} (d v : BitVec w) : BitVec w := BitVec.ofNat w (d.toNat ||| v.toNat)
def conjunctionOf {w : Nat} (d v : BitVec w) : BitVec w := BitVec.ofNat w (d.toNat &&& v.toNat)
def exclusiveOf {w : Nat} (d v : BitVec w) : BitVec w := BitVec.ofNat w (d.toNat ^^^ v.toNat)
def negationOf {w : Nat} (d : BitVec w) : BitVec w := BitVec.ofInt w (-(d.toNat : Int))

/-- `a div_t b`: truncating toward zero. -/
def truncatedDiv (a b : Int) : Int := a.sign * b.sign * ((a.natAbs / b.natAbs : Nat) : Int)

/-- `a rem_t b`. -/
def truncatedRem (a b : Int) : Int := a - b * truncatedDiv a b

/-- Division by zero gives 0 (`40_alu64.md` R203, `41_alu32.md` R253). -/
def quotientOf {w : Nat} (d v : BitVec w) : BitVec w :=
  if v.toNat = 0 then BitVec.ofNat w 0 else BitVec.ofNat w (d.toNat / v.toNat)
def signedQuotientOf {w : Nat} (d v : BitVec w) : BitVec w :=
  if v.toNat = 0 then BitVec.ofNat w 0 else BitVec.ofInt w (truncatedDiv d.toInt v.toInt)

/-- Modulo by zero gives the first operand (`40_alu64.md` R203, `41_alu32.md` R253). -/
def remainderOf {w : Nat} (d v : BitVec w) : BitVec w :=
  if v.toNat = 0 then d else BitVec.ofNat w (d.toNat - v.toNat * (d.toNat / v.toNat))
def signedRemainderOf {w : Nat} (d v : BitVec w) : BitVec w :=
  if v.toNat = 0 then d else BitVec.ofInt w (truncatedRem d.toInt v.toInt)

/-- Shifts by the amount modulo the width. -/
def shiftedLeft {w : Nat} (d v : BitVec w) : BitVec w := BitVec.ofNat w (d.toNat * 2 ^ (v.toNat % w))
def shiftedRight {w : Nat} (d v : BitVec w) : BitVec w := BitVec.ofNat w (d.toNat / 2 ^ (v.toNat % w))
def shiftedRightSigned {w : Nat} (d v : BitVec w) : BitVec w := BitVec.ofInt w (d.toInt.fdiv (2 ^ (v.toNat % w)))

/-- The signed reading of the low n bits of x. -/
def signedLow (n x : Nat) : Int :=
  if x % 2 ^ n < 2 ^ (n - 1) then (x % 2 ^ n : Nat) else ((x % 2 ^ n : Nat) : Int) - 2 ^ n

/-! ### Shapes of result statements: each holds for every state and every operand -/

def Imm64 (mk : Reg → BitVec 32 → Instr) (f : Word → Word → Word) : Prop :=
  ∀ (s : State) (dst : Reg) (imm : BitVec 32) (d : Word), s.regs.get dst = some d →
    exec (mk dst imm) s = .next (wrote s dst (f d (BitVec.ofInt 64 imm.toInt)) 1)

def Reg64 (mk : Reg → Reg → Instr) (f : Word → Word → Word) : Prop :=
  ∀ (s : State) (dst src : Reg) (d v : Word), s.regs.get dst = some d → s.regs.get src = some v →
    exec (mk dst src) s = .next (wrote s dst (f d v) 1)

/-- The low half of a register's value. -/
def lowHalf (v : Word) : BitVec 32 := BitVec.ofNat 32 v.toNat

/-- A 32-bit result in a register: the upper half is zero. -/
def widened (v : BitVec 32) : Word := BitVec.ofNat 64 v.toNat

def Imm32 (mk : Reg → BitVec 32 → Instr) (f : BitVec 32 → BitVec 32 → BitVec 32) : Prop :=
  ∀ (s : State) (dst : Reg) (imm : BitVec 32) (d : Word), s.regs.get dst = some d →
    exec (mk dst imm) s = .next (wrote s dst (widened (f (lowHalf d) imm)) 1)

def Reg32 (mk : Reg → Reg → Instr) (f : BitVec 32 → BitVec 32 → BitVec 32) : Prop :=
  ∀ (s : State) (dst src : Reg) (d v : Word), s.regs.get dst = some d → s.regs.get src = some v →
    exec (mk dst src) s = .next (wrote s dst (widened (f (lowHalf d) (lowHalf v))) 1)

/-- An instruction that reads its destination only. -/
def OnDst (mk : Reg → Instr) (f : State → Word → Word) : Prop :=
  ∀ (s : State) (dst : Reg) (d : Word), s.regs.get dst = some d →
    exec (mk dst) s = .next (wrote s dst (f s d) 1)

/-- An instruction that reads its source only; the destination may be unwritten. -/
def FromSrc (mk : Reg → Reg → Instr) (f : Word → Word) : Prop :=
  ∀ (s : State) (dst src : Reg) (v : Word), s.regs.get src = some v →
    exec (mk dst src) s = .next (wrote s dst (f v) 1)

/-- A conditional jump: to the displaced slot where the condition holds, to the next slot where it does not. -/
def JumpImm {w : Nat} (mk : Reg → BitVec 16 → BitVec 32 → Instr) (a : Word → BitVec w) (b : BitVec 32 → BitVec w)
    (c : BitVec w → BitVec w → Prop) : Prop :=
  ∀ (s : State) (dst : Reg) (offset : BitVec 16) (imm : BitVec 32) (d : Word), s.regs.get dst = some d →
    (c (a d) (b imm) → exec (mk dst offset imm) s = .next (jumped s (s.pc + 1 + offset.toInt))) ∧
    (¬ c (a d) (b imm) → exec (mk dst offset imm) s = .next (jumped s (s.pc + 1)))

def JumpReg {w : Nat} (mk : Reg → Reg → BitVec 16 → Instr) (a : Word → BitVec w) (c : BitVec w → BitVec w → Prop) :
    Prop :=
  ∀ (s : State) (dst src : Reg) (offset : BitVec 16) (d v : Word), s.regs.get dst = some d → s.regs.get src = some v →
    (c (a d) (a v) → exec (mk dst src offset) s = .next (jumped s (s.pc + 1 + offset.toInt))) ∧
    (¬ c (a d) (a v) → exec (mk dst src offset) s = .next (jumped s (s.pc + 1)))

/-- 64-bit operands of a jump: the register, and `sext_64(imm)`. -/
def Jump64 (mkK : Reg → BitVec 16 → BitVec 32 → Instr) (mkX : Reg → Reg → BitVec 16 → Instr)
    (c : Word → Word → Prop) : Prop :=
  JumpImm mkK id (fun imm => BitVec.ofInt 64 imm.toInt) c ∧ JumpReg mkX id c

/-- 32-bit operands of a jump: the low half of the register, and `imm`. -/
def Jump32 (mkK : Reg → BitVec 16 → BitVec 32 → Instr) (mkX : Reg → Reg → BitVec 16 → Instr)
    (c : BitVec 32 → BitVec 32 → Prop) : Prop :=
  JumpImm mkK lowHalf id c ∧ JumpReg mkX lowHalf c

/-! ### Operands of every instruction -/

/-- A call of a helper function: its table and identifier. -/
def helperOf : Instr → Option (HelperTable × BitVec 32)
  | .callHelper imm => some (.helpers, imm)
  | .callBtf imm => some (.btfHelpers, imm)
  | _ => none

/-- The registers an instruction reads, in the order of `60_exceptions.md` R515: `dst_reg`, `src_reg`, then implicit
ones. A helper's arguments depend on its arity and stand in `callReads`. -/
def readsOf : Instr → List Reg
  | .add64K d _ | .sub64K d _ | .mul64K d _ | .div64K d _ | .sdiv64K d _ | .or64K d _ | .and64K d _
  | .lsh64K d _ | .rsh64K d _ | .mod64K d _ | .smod64K d _ | .xor64K d _ | .arsh64K d _ | .neg64 d | .add32K d _
  | .sub32K d _ | .mul32K d _ | .div32K d _ | .sdiv32K d _ | .or32K d _ | .and32K d _ | .lsh32K d _
  | .rsh32K d _ | .mod32K d _ | .smod32K d _ | .xor32K d _ | .arsh32K d _ | .neg32 d | .le16 d | .le32 d
  | .le64 d | .be16 d | .be32 d | .be64 d | .bswap16 d | .bswap32 d | .bswap64 d | .jeq64K d _ _ | .jgt64K d _ _
  | .jge64K d _ _ | .jset64K d _ _ | .jne64K d _ _ | .jsgt64K d _ _ | .jsge64K d _ _ | .jlt64K d _ _
  | .jle64K d _ _ | .jslt64K d _ _ | .jsle64K d _ _ | .jeq32K d _ _ | .jgt32K d _ _ | .jge32K d _ _
  | .jset32K d _ _ | .jne32K d _ _ | .jsgt32K d _ _ | .jsge32K d _ _ | .jlt32K d _ _ | .jle32K d _ _
  | .jslt32K d _ _ | .jsle32K d _ _ | .stb d _ _ | .sth d _ _ | .stw d _ _ | .stdw d _ _ =>
    [d]
  | .add64X d v | .sub64X d v | .mul64X d v | .div64X d v | .sdiv64X d v | .or64X d v | .and64X d v
  | .lsh64X d v | .rsh64X d v | .mod64X d v | .smod64X d v | .xor64X d v | .arsh64X d v | .add32X d v
  | .sub32X d v | .mul32X d v | .div32X d v | .sdiv32X d v | .or32X d v | .and32X d v | .lsh32X d v
  | .rsh32X d v | .mod32X d v | .smod32X d v | .xor32X d v | .arsh32X d v | .jeq64X d v _ | .jgt64X d v _
  | .jge64X d v _ | .jset64X d v _ | .jne64X d v _ | .jsgt64X d v _ | .jsge64X d v _ | .jlt64X d v _
  | .jle64X d v _ | .jslt64X d v _ | .jsle64X d v _ | .jeq32X d v _ | .jgt32X d v _ | .jge32X d v _
  | .jset32X d v _ | .jne32X d v _ | .jsgt32X d v _ | .jsge32X d v _ | .jlt32X d v _ | .jle32X d v _
  | .jslt32X d v _ | .jsle32X d v _ | .stxb d v _ | .stxh d v _ | .stxw d v _ | .stxdw d v _
  | .atomicAdd32 d v _ | .atomicFetchAdd32 d v _ | .atomicOr32 d v _ | .atomicFetchOr32 d v _
  | .atomicAnd32 d v _ | .atomicFetchAnd32 d v _ | .atomicXor32 d v _ | .atomicFetchXor32 d v _
  | .atomicXchg32 d v _ | .atomicAdd64 d v _ | .atomicFetchAdd64 d v _ | .atomicOr64 d v _
  | .atomicFetchOr64 d v _ | .atomicAnd64 d v _ | .atomicFetchAnd64 d v _ | .atomicXor64 d v _
  | .atomicFetchXor64 d v _ | .atomicXchg64 d v _ =>
    [d, v]
  | .mov64X _ v | .movsx64From8 _ v | .movsx64From16 _ v | .movsx64From32 _ v | .mov32X _ v | .movsx32From8 _ v
  | .movsx32From16 _ v | .ldxb _ v _ | .ldxh _ v _ | .ldxw _ v _ | .ldxdw _ v _ | .ldxsb _ v _ | .ldxsh _ v _
  | .ldxsw _ v _ =>
    [v]
  | .atomicCmpxchg32 d v _ | .atomicCmpxchg64 d v _ => [d, v, .r0]
  | .exit => [.r0]
  | .mov64K _ _ | .mov32K _ _ | .ja _ | .ja32 _ | .callHelper _ | .callLocal _ _ | .callBtf _ | .lddw _ _ _
  | .ldMapFd _ _ | .ldMapValFd _ _ _ | .ldVarAddr _ _ | .ldCodeAddr _ _ | .ldMapIdx _ _ | .ldMapValIdx _ _ _
  | .ldAbs _ _ _ _ _ | .ldInd _ _ _ _ _ =>
    []

/-- The first register of a list that holds no value. -/
def firstUnwritten (s : State) (rs : List Reg) : Option Reg := rs.find? (fun r => (s.regs.get r).isNone)

/-- The argument registers of a helper of arity k. -/
def callReads (k : Nat) : List Reg := [Reg.r1, .r2, .r3, .r4, .r5].take k

/-- The registers an instruction may change (`10_state.md` R35). -/
def writesOf : Instr → List Reg
  | .add64K d _ | .add64X d _ | .sub64K d _ | .sub64X d _ | .mul64K d _ | .mul64X d _ | .div64K d _
  | .div64X d _ | .sdiv64K d _ | .sdiv64X d _ | .or64K d _ | .or64X d _ | .and64K d _ | .and64X d _
  | .lsh64K d _ | .lsh64X d _ | .rsh64K d _ | .rsh64X d _ | .mod64K d _ | .mod64X d _ | .smod64K d _
  | .smod64X d _ | .xor64K d _ | .xor64X d _ | .mov64K d _ | .mov64X d _ | .arsh64K d _ | .arsh64X d _
  | .neg64 d | .movsx64From8 d _ | .movsx64From16 d _ | .movsx64From32 d _ | .add32K d _ | .add32X d _
  | .sub32K d _ | .sub32X d _ | .mul32K d _ | .mul32X d _ | .div32K d _ | .div32X d _ | .sdiv32K d _
  | .sdiv32X d _ | .or32K d _ | .or32X d _ | .and32K d _ | .and32X d _ | .lsh32K d _ | .lsh32X d _ | .rsh32K d _
  | .rsh32X d _ | .mod32K d _ | .mod32X d _ | .smod32K d _ | .smod32X d _ | .xor32K d _ | .xor32X d _
  | .mov32K d _ | .mov32X d _ | .arsh32K d _ | .arsh32X d _ | .neg32 d | .movsx32From8 d _ | .movsx32From16 d _
  | .le16 d | .le32 d | .le64 d | .be16 d | .be32 d | .be64 d | .bswap16 d | .bswap32 d | .bswap64 d
  | .ldxb d _ _ | .ldxh d _ _ | .ldxw d _ _ | .ldxdw d _ _ | .ldxsb d _ _ | .ldxsh d _ _ | .ldxsw d _ _
  | .lddw d _ _ | .ldMapFd d _ | .ldMapValFd d _ _ | .ldVarAddr d _ | .ldCodeAddr d _ | .ldMapIdx d _
  | .ldMapValIdx d _ _ =>
    [d]
  | .atomicFetchAdd32 _ v _ | .atomicFetchOr32 _ v _ | .atomicFetchAnd32 _ v _ | .atomicFetchXor32 _ v _
  | .atomicXchg32 _ v _ | .atomicFetchAdd64 _ v _ | .atomicFetchOr64 _ v _ | .atomicFetchAnd64 _ v _
  | .atomicFetchXor64 _ v _ | .atomicXchg64 _ v _ =>
    [v]
  | .atomicCmpxchg32 _ _ _ | .atomicCmpxchg64 _ _ _ => [.r0]
  | .callHelper _ | .callBtf _ => [.r0, .r1, .r2, .r3, .r4, .r5]
  | .callLocal _ _ => [.r0, .r6, .r7, .r8, .r9, .r10]
  | .exit => [.r1, .r2, .r3, .r4, .r5, .r6, .r7, .r8, .r9, .r10]
  | .ja _ | .jeq64K _ _ _ | .jeq64X _ _ _ | .jgt64K _ _ _ | .jgt64X _ _ _ | .jge64K _ _ _ | .jge64X _ _ _
  | .jset64K _ _ _ | .jset64X _ _ _ | .jne64K _ _ _ | .jne64X _ _ _ | .jsgt64K _ _ _ | .jsgt64X _ _ _
  | .jsge64K _ _ _ | .jsge64X _ _ _ | .jlt64K _ _ _ | .jlt64X _ _ _ | .jle64K _ _ _ | .jle64X _ _ _
  | .jslt64K _ _ _ | .jslt64X _ _ _ | .jsle64K _ _ _ | .jsle64X _ _ _ | .ja32 _ | .jeq32K _ _ _ | .jeq32X _ _ _
  | .jgt32K _ _ _ | .jgt32X _ _ _ | .jge32K _ _ _ | .jge32X _ _ _ | .jset32K _ _ _ | .jset32X _ _ _
  | .jne32K _ _ _ | .jne32X _ _ _ | .jsgt32K _ _ _ | .jsgt32X _ _ _ | .jsge32K _ _ _ | .jsge32X _ _ _
  | .jlt32K _ _ _ | .jlt32X _ _ _ | .jle32K _ _ _ | .jle32X _ _ _ | .jslt32K _ _ _ | .jslt32X _ _ _
  | .jsle32K _ _ _ | .jsle32X _ _ _ | .stb _ _ _ | .sth _ _ _ | .stw _ _ _ | .stdw _ _ _ | .stxb _ _ _
  | .stxh _ _ _ | .stxw _ _ _ | .stxdw _ _ _ | .atomicAdd32 _ _ _ | .atomicOr32 _ _ _ | .atomicAnd32 _ _ _
  | .atomicXor32 _ _ _ | .atomicAdd64 _ _ _ | .atomicOr64 _ _ _ | .atomicAnd64 _ _ _ | .atomicXor64 _ _ _
  | .ldAbs _ _ _ _ _ | .ldInd _ _ _ _ _ =>
    []

/-- The memory access of an instruction: base register, displacement, width, kind (`20_memory.md` R72, R82). -/
def accessOf : Instr → Option (Reg × BitVec 16 × MemSize × AccessKind)
  | .ldxb _ base offset | .ldxsb _ base offset => some (base, offset, .b, .read)
  | .ldxh _ base offset | .ldxsh _ base offset => some (base, offset, .h, .read)
  | .ldxw _ base offset | .ldxsw _ base offset => some (base, offset, .w, .read)
  | .ldxdw _ base offset => some (base, offset, .dw, .read)
  | .stb base offset _ | .stxb base _ offset => some (base, offset, .b, .write)
  | .sth base offset _ | .stxh base _ offset => some (base, offset, .h, .write)
  | .stw base offset _ | .stxw base _ offset => some (base, offset, .w, .write)
  | .stdw base offset _ | .stxdw base _ offset => some (base, offset, .dw, .write)
  | .atomicAdd32 base _ offset | .atomicFetchAdd32 base _ offset | .atomicOr32 base _ offset
  | .atomicFetchOr32 base _ offset | .atomicAnd32 base _ offset | .atomicFetchAnd32 base _ offset
  | .atomicXor32 base _ offset | .atomicFetchXor32 base _ offset | .atomicXchg32 base _ offset
  | .atomicCmpxchg32 base _ offset =>
    some (base, offset, .w, .atomic)
  | .atomicAdd64 base _ offset | .atomicFetchAdd64 base _ offset | .atomicOr64 base _ offset
  | .atomicFetchOr64 base _ offset | .atomicAnd64 base _ offset | .atomicFetchAnd64 base _ offset
  | .atomicXor64 base _ offset | .atomicFetchXor64 base _ offset | .atomicXchg64 base _ offset
  | .atomicCmpxchg64 base _ offset =>
    some (base, offset, .dw, .atomic)
  | _ => none

/-- Where an instruction that does not fault may leave pc (`10_state.md` R37). -/
def nextPcs (s : State) : Instr → List Int
  | .ja offset => [s.pc + 1 + offset.toInt]
  | .ja32 imm => [s.pc + 1 + imm.toInt]
  | .jeq64K _ offset _ | .jeq64X _ _ offset | .jgt64K _ offset _ | .jgt64X _ _ offset | .jge64K _ offset _
  | .jge64X _ _ offset | .jset64K _ offset _ | .jset64X _ _ offset | .jne64K _ offset _ | .jne64X _ _ offset
  | .jsgt64K _ offset _ | .jsgt64X _ _ offset | .jsge64K _ offset _ | .jsge64X _ _ offset | .jlt64K _ offset _
  | .jlt64X _ _ offset | .jle64K _ offset _ | .jle64X _ _ offset | .jslt64K _ offset _ | .jslt64X _ _ offset
  | .jsle64K _ offset _ | .jsle64X _ _ offset | .jeq32K _ offset _ | .jeq32X _ _ offset | .jgt32K _ offset _
  | .jgt32X _ _ offset | .jge32K _ offset _ | .jge32X _ _ offset | .jset32K _ offset _ | .jset32X _ _ offset
  | .jne32K _ offset _ | .jne32X _ _ offset | .jsgt32K _ offset _ | .jsgt32X _ _ offset | .jsge32K _ offset _
  | .jsge32X _ _ offset | .jlt32K _ offset _ | .jlt32X _ _ offset | .jle32K _ offset _ | .jle32X _ _ offset
  | .jslt32K _ offset _ | .jslt32X _ _ offset | .jsle32K _ offset _ | .jsle32X _ _ offset =>
    [s.pc + 1 + offset.toInt, s.pc + 1]
  | .callLocal offset imm =>
    match s.cfg.localCallDisp with
    | .offset => [s.pc + 1 + offset.toInt]
    | .imm => [s.pc + 1 + imm.toInt]
  | .exit =>
    match s.frames with
    | [] => [s.pc]
    | f :: _ => [f.ret]
  | .lddw _ _ _ | .ldMapFd _ _ | .ldMapValFd _ _ _ | .ldVarAddr _ _ | .ldCodeAddr _ _ | .ldMapIdx _ _
  | .ldMapValIdx _ _ _ =>
    [s.pc + 2]
  | _ => [s.pc + 1]

/-! ### Memory -/

/-- `(x[base] + sext_64(offset)) mod 2^64` (`20_memory.md` R72). -/
def address (base : Word) (offset : BitVec 16) : Word := BitVec.ofInt 64 ((base.toNat : Int) + offset.toInt)

/-- The bytes from `a` lie in the stack area (`20_memory.md` R80). -/
def insideStack (c : Config) (a n : Nat) : Bool :=
  decide (c.stackTop.toNat - c.stackSize * c.maxCallDepth ≤ a) && decide (a + n ≤ c.stackTop.toNat)

/-- The bytes from `a` lie in a region. -/
def insideRegion (g : Region) (a n : Nat) : Bool :=
  decide (g.base.toNat ≤ a) && decide (a + n ≤ g.base.toNat + g.length)

/-- A region allows a kind of access (`20_memory.md` R71). -/
def permits (g : Region) : AccessKind → Bool
  | .read => g.readable
  | .write => g.writable
  | .atomic => g.readable && g.writable

/-- (a) of R71. -/
def fits (a : Word) (n : MemSize) : Bool := decide (a.toNat + sizeBytes n ≤ 2 ^ 64)

/-- Alignment as `20_memory.md` R79 wants it: always for an atomic access, for the others under `ALIGN_STRICT`. -/
def alignedEnough (c : Config) (a : Word) (n : MemSize) (k : AccessKind) : Bool :=
  match k with
  | .atomic => decide (a.toNat % sizeBytes n = 0)
  | _ => !c.alignStrict || decide (a.toNat % sizeBytes n = 0)

/-- All n bytes lie in the stack area or in one region. -/
def mapped (c : Config) (a : Word) (n : MemSize) : Bool :=
  insideStack c a.toNat (sizeBytes n) || c.regions.any (fun g => insideRegion g a.toNat (sizeBytes n))

/-- (b) of R71: they lie in the stack area or in one region that allows the kind. -/
def allowed (c : Config) (a : Word) (n : MemSize) (k : AccessKind) : Bool :=
  insideStack c a.toNat (sizeBytes n) ||
    c.regions.any (fun g => insideRegion g a.toNat (sizeBytes n) && permits g k)

/-- Admission (`20_memory.md` R71). -/
def admitted (c : Config) (a : Word) (n : MemSize) (k : AccessKind) : Bool :=
  fits a n && allowed c a n k && alignedEnough c a n k

/-- The reason of a `MemoryFault`: the first that applies (`60_exceptions.md` R516). -/
def deniedBecause (c : Config) (a : Word) (n : MemSize) (k : AccessKind) : MemReason → Bool
  | .wraps => !fits a n
  | .misaligned => fits a n && !alignedEnough c a n k
  | .notMapped => fits a n && alignedEnough c a n k && !mapped c a n
  | .noPermission => fits a n && alignedEnough c a n k && mapped c a n && !allowed c a n k

/-- The region starts at `MAP_VAL(m)` for some map m (`48_imm64.md` R488). -/
def mapValue (c : Config) (g : Region) : Bool := c.mapVal.any fun p => decide (c.mapVal.lookup p.1 = some g.base)

/-- A byte that no other agent may change: of the stack, or of no region that is shared (`20_memory.md` R90) or the
value of a map (`48_imm64.md` R488). -/
def unshared (c : Config) (a : Nat) : Bool :=
  insideStack c a 1 || c.regions.all (fun g => !((g.shared || mapValue c g) && insideRegion g a 1))

/-- The address is not one that the instruction stores to (`20_memory.md` R70, R72). -/
def notStoredTo (i : Instr) (s : State) (c : Nat) : Prop :=
  ∀ (b : Reg) (offset : BitVec 16) (n : MemSize) (k : AccessKind) (base : Word),
    accessOf i = some (b, offset, n, k) → k ≠ .read → s.regs.get b = some base →
    c < (address base offset).toNat ∨ (address base offset).toNat + sizeBytes n ≤ c

/-- The power of two at which byte k of an n-byte value stands (`20_memory.md` R74, R75). -/
def weight (e : Endian) (n k : Nat) : Nat :=
  match e with
  | .little => 2 ^ (8 * k)
  | .big => 2 ^ (8 * (n - 1 - k))

/-- `sum over k of b[k] * 2^(...)` over the bytes a read of this step sees (`20_memory.md` R74). -/
def readValue (s : State) (a : Word) (n : MemSize) : Nat :=
  ((List.range (sizeBytes n)).map
    (fun k => (s.seenByte (a.toNat + k)).toNat * weight s.cfg.endian (sizeBytes n) k)).sum

/-- `m` is the memory of `s` with the low n bytes of `v` at `a`, and every other byte as before (`20_memory.md` R75). -/
def storesBytes (s : State) (m : Memory) (a : Word) (n : MemSize) (v : Nat) : Prop :=
  (∀ k, k < sizeBytes n →
    m.byte? (a.toNat + k) = some (BitVec.ofNat 8 (v / weight s.cfg.endian (sizeBytes n) k))) ∧
  ∀ c, c < a.toNat ∨ a.toNat + sizeBytes n ≤ c → m.byte? c = s.mem.byte? c

/-- A load, with the extension of the value read. -/
def Load (mk : Reg → Reg → BitVec 16 → Instr) (n : MemSize) (extend : Nat → Word) : Prop :=
  ∀ (s : State) (dst src : Reg) (offset : BitVec 16) (base : Word), s.regs.get src = some base →
    admitted s.cfg (address base offset) n .read = true →
    exec (mk dst src offset) s =
      .next { wrote s dst (extend (readValue s (address base offset) n)) 1 with draws := s.draws + 1 }

/-- A store of the immediate. -/
def StoreImm (mk : Reg → BitVec 16 → BitVec 32 → Instr) (n : MemSize) : Prop :=
  ∀ (s : State) (dst : Reg) (offset : BitVec 16) (imm : BitVec 32) (base : Word), s.regs.get dst = some base →
    admitted s.cfg (address base offset) n .write = true →
    ∃ m, exec (mk dst offset imm) s = .next { s with mem := m, pc := s.pc + 1 } ∧
      storesBytes s m (address base offset) n (BitVec.ofInt 64 imm.toInt).toNat

/-- A store of a register. -/
def StoreReg (mk : Reg → Reg → BitVec 16 → Instr) (n : MemSize) : Prop :=
  ∀ (s : State) (dst src : Reg) (offset : BitVec 16) (base v : Word), s.regs.get dst = some base →
    s.regs.get src = some v → admitted s.cfg (address base offset) n .write = true →
    ∃ m, exec (mk dst src offset) s = .next { s with mem := m, pc := s.pc + 1 } ∧
      storesBytes s m (address base offset) n v.toNat

/-- A simple atomic operation without and with `BPF_FETCH`, on the low bits of the memory value and the register. -/
def AtomicPair (keep fetch : Reg → Reg → BitVec 16 → Instr) (n : MemSize) (op : Nat → Nat → Nat) : Prop :=
  ∀ (s : State) (dst src : Reg) (offset : BitVec 16) (base v : Word), s.regs.get dst = some base →
    s.regs.get src = some v → admitted s.cfg (address base offset) n .atomic = true →
    ∃ m, storesBytes s m (address base offset) n (op (readValue s (address base offset) n) v.toNat) ∧
      exec (keep dst src offset) s = .next { s with mem := m, pc := s.pc + 1, draws := s.draws + 1 } ∧
      exec (fetch dst src offset) s =
        .next { s with
          mem := m
          regs := s.regs.put src (some (BitVec.ofNat 64 (readValue s (address base offset) n)))
          pc := s.pc + 1
          draws := s.draws + 1 }

/-- An atomic exchange. -/
def AtomicExchange (mk : Reg → Reg → BitVec 16 → Instr) (n : MemSize) : Prop :=
  ∀ (s : State) (dst src : Reg) (offset : BitVec 16) (base v : Word), s.regs.get dst = some base →
    s.regs.get src = some v → admitted s.cfg (address base offset) n .atomic = true →
    ∃ m, storesBytes s m (address base offset) n v.toNat ∧
      exec (mk dst src offset) s =
        .next { s with
          mem := m
          regs := s.regs.put src (some (BitVec.ofNat 64 (readValue s (address base offset) n)))
          pc := s.pc + 1
          draws := s.draws + 1 }

/-- An atomic compare and exchange: R0 takes the old value in either case; memory changes only on a match. -/
def AtomicCompare (mk : Reg → Reg → BitVec 16 → Instr) (n : MemSize) : Prop :=
  ∀ (s : State) (dst src : Reg) (offset : BitVec 16) (base v e : Word), s.regs.get dst = some base →
    s.regs.get src = some v → s.regs.get .r0 = some e →
    admitted s.cfg (address base offset) n .atomic = true →
    ∃ m, (if readValue s (address base offset) n = e.toNat % 2 ^ (8 * sizeBytes n)
          then storesBytes s m (address base offset) n v.toNat else m = s.mem) ∧
      exec (mk dst src offset) s =
        .next { s with
          mem := m
          regs := s.regs.put .r0 (some (BitVec.ofNat 64 (readValue s (address base offset) n)))
          pc := s.pc + 1
          draws := s.draws + 1 }

/-- A store of a register and the load of the same width and address, at bytes that no other agent may change. -/
def StoreThenLoad (store load : Reg → Reg → BitVec 16 → Instr) (n : MemSize) : Prop :=
  ∀ (s : State) (dst src q : Reg) (offset : BitVec 16) (base v : Word), s.regs.get dst = some base →
    s.regs.get src = some v → q ≠ .r10 →
    admitted s.cfg (address base offset) n .write = true → admitted s.cfg (address base offset) n .read = true →
    (∀ k, k < sizeBytes n → unshared s.cfg ((address base offset).toNat + k) = true) →
    ∃ t u, exec (store dst src offset) s = .next t ∧ exec (load q dst offset) t = .next u ∧
      u.regs.get q = some (BitVec.ofNat 64 (v.toNat % 2 ^ (8 * sizeBytes n)))

/-! ### Calls and wide loads -/

/-- The arguments of a helper of arity k, when every one of them holds a value. -/
def argsOf (s : State) (k : Nat) : Option (List Word) := (callReads k).mapM s.regs.get

/-- A case of a helper function is about this call: the arguments are its own, and memory holds its bytes. -/
def caseHolds (s : State) (args : List Word) (k : HelperCase) : Bool :=
  decide (k.args = args) && k.memory.all (fun b => decide (s.seenByte b.1.toNat = b.2))

/-- The value a list of scattered writes leaves at an address: the last one to it. -/
def lastWrite (ws : List (Word × Byte)) (a : Nat) : Option Byte :=
  (ws.reverse.find? (fun w => w.1.toNat == a)).map Prod.snd

/-- The displacement of a program-local call (`45_call_exit.md` R391). -/
def callDistance (c : Config) (offset : BitVec 16) (imm : BitVec 32) : Int :=
  match c.localCallDisp with
  | .offset => offset.toInt
  | .imm => imm.toInt

/-- A wide load whose value the platform gives, and the fault where it gives none. -/
def WideRef (mk : Reg → BitVec 32 → Instr) (subtype : RefSubtype) (f : State → BitVec 32 → Option Word) : Prop :=
  ∀ (s : State) (dst : Reg) (imm : BitVec 32),
    (∀ a, f s imm = some a → exec (mk dst imm) s = .next (wrote s dst a 2)) ∧
    (f s imm = none → exec (mk dst imm) s = .next (faulted s (.unresolvedReference s.pc subtype imm)))

/-- A wide load of an address inside a map's value. -/
def WideMapValue (mk : Reg → BitVec 32 → BitVec 32 → Instr) (subtype : RefSubtype)
    (f : State → BitVec 32 → Option Word) : Prop :=
  ∀ (s : State) (dst : Reg) (imm nextImm : BitVec 32),
    (∀ m a, f s imm = some m → s.cfg.mapVal.lookup m = some a →
      exec (mk dst imm nextImm) s = .next (wrote s dst (BitVec.ofNat 64 (a.toNat + nextImm.toNat)) 2)) ∧
    (f s imm = none ∨ (∃ m, f s imm = some m ∧ s.cfg.mapVal.lookup m = none) →
      exec (mk dst imm nextImm) s = .next (faulted s (.unresolvedReference s.pc subtype imm)))

/-! ### Encodings -/

/-- `W = opcode | dst << 8 | src << 12 | offset << 16 | imm << 32` (`30_encoding.md` R112). -/
def wordOf (f : Fields) : BitVec 64 :=
  BitVec.ofNat 64 (f.opcode.toNat + f.dst.toNat * 2 ^ 8 + f.src.toNat * 2 ^ 12 + f.offset.toNat * 2 ^ 16 +
    f.imm.toNat * 2 ^ 32)

/-- The 119 opcodes that `30_encoding.md` R151 lists as defined. -/
def definedOpcodes : List Nat :=
  [0x04, 0x05, 0x06, 0x07, 0x0c, 0x0f, 0x14, 0x15, 0x16, 0x17, 0x18, 0x1c, 0x1d, 0x1e, 0x1f, 0x24, 0x25,
   0x26, 0x27, 0x2c, 0x2d, 0x2e, 0x2f, 0x34, 0x35, 0x36, 0x37, 0x3c, 0x3d, 0x3e, 0x3f, 0x44, 0x45, 0x46,
   0x47, 0x4c, 0x4d, 0x4e, 0x4f, 0x54, 0x55, 0x56, 0x57, 0x5c, 0x5d, 0x5e, 0x5f, 0x61, 0x62, 0x63, 0x64,
   0x65, 0x66, 0x67, 0x69, 0x6a, 0x6b, 0x6c, 0x6d, 0x6e, 0x6f, 0x71, 0x72, 0x73, 0x74, 0x75, 0x76, 0x77,
   0x79, 0x7a, 0x7b, 0x7c, 0x7d, 0x7e, 0x7f, 0x81, 0x84, 0x85, 0x87, 0x89, 0x91, 0x94, 0x95, 0x97, 0x9c,
   0x9f, 0xa4, 0xa5, 0xa6, 0xa7, 0xac, 0xad, 0xae, 0xaf, 0xb4, 0xb5, 0xb6, 0xb7, 0xbc, 0xbd, 0xbe, 0xbf,
   0xc3, 0xc4, 0xc5, 0xc6, 0xc7, 0xcc, 0xcd, 0xce, 0xcf, 0xd4, 0xd5, 0xd6, 0xd7, 0xdb, 0xdc, 0xdd, 0xde]

/-- The 8 opcodes of the legacy rows (`30_encoding.md` R151, `49_legacy_packet.md` R500). -/
def legacyOpcodes : List Nat := [0x20, 0x28, 0x30, 0x38, 0x40, 0x48, 0x50, 0x58]

/-- The instruction is one of the 32-bit arithmetic instructions: class 4, code not `BPF_END`. -/
def isAlu32 (i : Instr) : Bool := i.fields.opcode &&& 7 == 4 && i.fields.opcode &&& 0xf0 != 0xd0

/-- The instruction is an arithmetic one: class 4 or 7 (`30_encoding.md` R120). -/
def isArithmetic (i : Instr) : Bool := i.fields.opcode &&& 7 == 4 || i.fields.opcode &&& 7 == 7

/-- Two register files agree on which registers hold values and on the low half of each value. -/
def sameLowHalves (f g : RegFile) : Prop :=
  ∀ r, (f.get r).map (fun v => v.toNat % 2 ^ 32) = (g.get r).map (fun v => v.toNat % 2 ^ 32)

/-! ### Register fields that are only read (`10_state.md` R32) -/

/-- The slots of `i` decode to `i`, whatever the byte order, the parameter and the slots after them. -/
def decodesBack (i : Instr) : Prop :=
  ∀ (e : Endian) (disp : LocalCallDisp) (rest : List Slot), decode e disp (encode e i ++ rest) = .ok i

/-- The arithmetic forms that read `src`. -/
def arithmeticForms : List (Reg → Reg → Instr) :=
  [.add64X, .sub64X, .mul64X, .div64X, .sdiv64X, .or64X, .and64X, .lsh64X, .rsh64X, .mod64X, .smod64X, .xor64X,
   .mov64X, .arsh64X, .movsx64From8, .movsx64From16, .movsx64From32, .add32X, .sub32X, .mul32X, .div32X, .sdiv32X,
   .or32X, .and32X, .lsh32X, .rsh32X, .mod32X, .smod32X, .xor32X, .mov32X, .arsh32X, .movsx32From8, .movsx32From16]

/-- The loads: they write `dst` and read `src`. -/
def loadForms : List (Reg → Reg → BitVec 16 → Instr) := [.ldxb, .ldxh, .ldxw, .ldxdw, .ldxsb, .ldxsh, .ldxsw]

/-- The stores and conditional jumps with an immediate: they read `dst`. -/
def immediateForms : List (Reg → BitVec 16 → BitVec 32 → Instr) :=
  [.stb, .sth, .stw, .stdw, .jeq64K, .jgt64K, .jge64K, .jset64K, .jne64K, .jsgt64K, .jsge64K, .jlt64K, .jle64K,
   .jslt64K, .jsle64K, .jeq32K, .jgt32K, .jge32K, .jset32K, .jne32K, .jsgt32K, .jsge32K, .jlt32K, .jle32K, .jslt32K,
   .jsle32K]

/-- The stores, conditional jumps and atomic operations that read both `dst` and `src` and write neither. -/
def readBothForms : List (Reg → Reg → BitVec 16 → Instr) :=
  [.stxb, .stxh, .stxw, .stxdw, .jeq64X, .jgt64X, .jge64X, .jset64X, .jne64X, .jsgt64X, .jsge64X, .jlt64X, .jle64X,
   .jslt64X, .jsle64X, .jeq32X, .jgt32X, .jge32X, .jset32X, .jne32X, .jsgt32X, .jsge32X, .jlt32X, .jle32X, .jslt32X,
   .jsle32X, .atomicAdd32, .atomicOr32, .atomicAnd32, .atomicXor32, .atomicCmpxchg32, .atomicAdd64, .atomicOr64,
   .atomicAnd64, .atomicXor64, .atomicCmpxchg64]

/-- The atomic operations that read `dst` and write `src`. -/
def fetchForms : List (Reg → Reg → BitVec 16 → Instr) :=
  [.atomicFetchAdd32, .atomicFetchOr32, .atomicFetchAnd32, .atomicFetchXor32, .atomicXchg32, .atomicFetchAdd64,
   .atomicFetchOr64, .atomicFetchAnd64, .atomicFetchXor64, .atomicXchg64]

/-- A byte swap: the low `bits` bits of the destination, reversed by bytes where `reverse` says so. -/
def ByteSwap (mk : Reg → Instr) (bits : Nat) (reverse : Endian → Bool) : Prop :=
  OnDst mk (fun s d =>
    if reverse s.cfg.endian then
      BitVec.ofNat 64 (((List.range (bits / 8)).map
        (fun k => d.toNat / 2 ^ (8 * (bits / 8 - 1 - k)) % 256 * 2 ^ (8 * k))).sum)
    else BitVec.ofNat 64 (d.toNat % 2 ^ bits))

end Sys2Proof.Claims

open Sys2Proof Sys2Proof.Machine Sys2Proof.Claims

/-- The 26 two-operand 64-bit arithmetic instructions complete with the result of the rules and change nothing but
dst and pc (R200, R201, R203). -/
def Obligations.Alu64Results : Prop :=
  Imm64 .add64K sumOf ∧ Reg64 .add64X sumOf ∧
  Imm64 .sub64K differenceOf ∧ Reg64 .sub64X differenceOf ∧
  Imm64 .mul64K productOf ∧ Reg64 .mul64X productOf ∧
  Imm64 .div64K quotientOf ∧ Reg64 .div64X quotientOf ∧
  Imm64 .sdiv64K signedQuotientOf ∧ Reg64 .sdiv64X signedQuotientOf ∧
  Imm64 .or64K disjunctionOf ∧ Reg64 .or64X disjunctionOf ∧
  Imm64 .and64K conjunctionOf ∧ Reg64 .and64X conjunctionOf ∧
  Imm64 .lsh64K shiftedLeft ∧ Reg64 .lsh64X shiftedLeft ∧
  Imm64 .rsh64K shiftedRight ∧ Reg64 .rsh64X shiftedRight ∧
  Imm64 .mod64K remainderOf ∧ Reg64 .mod64X remainderOf ∧
  Imm64 .smod64K signedRemainderOf ∧ Reg64 .smod64X signedRemainderOf ∧
  Imm64 .xor64K exclusiveOf ∧ Reg64 .xor64X exclusiveOf ∧
  Imm64 .arsh64K shiftedRightSigned ∧ Reg64 .arsh64X shiftedRightSigned

/-- NEG64, MOV64_K, MOV64_X and the three MOVSX64 complete with their results; the moves do not read dst
(40_alu64.md section 2). -/
def Obligations.Move64Results : Prop :=
  OnDst .neg64 (fun _ d => negationOf d) ∧
  (∀ (s : State) (dst : Reg) (imm : BitVec 32),
    exec (.mov64K dst imm) s = .next (wrote s dst (BitVec.ofInt 64 imm.toInt) 1)) ∧
  FromSrc .mov64X id ∧
  FromSrc .movsx64From8 (fun v => BitVec.ofInt 64 (signedLow 8 v.toNat)) ∧
  FromSrc .movsx64From16 (fun v => BitVec.ofInt 64 (signedLow 16 v.toNat)) ∧
  FromSrc .movsx64From32 (fun v => BitVec.ofInt 64 (signedLow 32 v.toNat))

/-- The 26 two-operand 32-bit arithmetic instructions complete with the zero-extended 32-bit result and change
nothing but dst and pc (R250, R251, R253). -/
def Obligations.Alu32Results : Prop :=
  Imm32 .add32K sumOf ∧ Reg32 .add32X sumOf ∧
  Imm32 .sub32K differenceOf ∧ Reg32 .sub32X differenceOf ∧
  Imm32 .mul32K productOf ∧ Reg32 .mul32X productOf ∧
  Imm32 .div32K quotientOf ∧ Reg32 .div32X quotientOf ∧
  Imm32 .sdiv32K signedQuotientOf ∧ Reg32 .sdiv32X signedQuotientOf ∧
  Imm32 .or32K disjunctionOf ∧ Reg32 .or32X disjunctionOf ∧
  Imm32 .and32K conjunctionOf ∧ Reg32 .and32X conjunctionOf ∧
  Imm32 .lsh32K shiftedLeft ∧ Reg32 .lsh32X shiftedLeft ∧
  Imm32 .rsh32K shiftedRight ∧ Reg32 .rsh32X shiftedRight ∧
  Imm32 .mod32K remainderOf ∧ Reg32 .mod32X remainderOf ∧
  Imm32 .smod32K signedRemainderOf ∧ Reg32 .smod32X signedRemainderOf ∧
  Imm32 .xor32K exclusiveOf ∧ Reg32 .xor32X exclusiveOf ∧
  Imm32 .arsh32K shiftedRightSigned ∧ Reg32 .arsh32X shiftedRightSigned

/-- NEG32, MOV32_K, MOV32_X and the two MOVSX32 complete with their zero-extended results; the moves do not read dst
(41_alu32.md section 2). -/
def Obligations.Move32Results : Prop :=
  OnDst .neg32 (fun _ d => widened (negationOf (lowHalf d))) ∧
  (∀ (s : State) (dst : Reg) (imm : BitVec 32), exec (.mov32K dst imm) s = .next (wrote s dst (widened imm) 1)) ∧
  FromSrc .mov32X (fun v => widened (lowHalf v)) ∧
  FromSrc .movsx32From8 (fun v => widened (BitVec.ofInt 32 (signedLow 8 v.toNat))) ∧
  FromSrc .movsx32From16 (fun v => widened (BitVec.ofInt 32 (signedLow 16 v.toNat)))

/-- A 32-bit arithmetic instruction run on registers that differ only in their upper halves writes the same value,
below 2^32 (41_alu32.md section 1). -/
def Obligations.UpperHalvesDoNotMatter : Prop :=
  ∀ (i : Instr) (s t u : State) (f : RegFile) (r : Reg), isAlu32 i = true → sameLowHalves s.regs f →
    exec i s = .next t → exec i { s with regs := f } = .next u → isFault t.status = false →
    r.number = i.fields.dst → r ≠ .r10 →
    u.regs.get r = t.regs.get r ∧ ∃ v, t.regs.get r = some v ∧ v.toNat < 2 ^ 32

/-- SDIV64 and SMOD64 on the same operands complete with a quotient and a remainder that satisfy the division
identity (40_alu64.md section 1; 00_scope.md section 5). -/
def Obligations.SignedDivisionIdentity : Prop :=
  ∀ (s : State) (dst src : Reg) (a b : Word), s.regs.get dst = some a → s.regs.get src = some b → b ≠ 0 →
    ∃ q r : Word, exec (.sdiv64X dst src) s = .next (wrote s dst q 1) ∧
      exec (.smod64X dst src) s = .next (wrote s dst r 1) ∧
      a = b * q + r ∧ r.toInt.natAbs < b.toInt.natAbs ∧ (r = 0 ∨ (r.toInt < 0 ↔ a.toInt < 0))

/-- No arithmetic instruction faults when its registers hold values; division by zero gives 0 and modulo by zero
keeps the value or its low half (R521). -/
def Obligations.ArithmeticNeverFaults : Prop :=
  (∀ (i : Instr) (s : State), isArithmetic i = true → firstUnwritten s (readsOf i) = none →
    ∃ t, exec i s = .next t ∧ t.status = s.status) ∧
  (∀ (s : State) (dst : Reg) (d : Word), s.regs.get dst = some d →
    (∀ mk ∈ [Instr.div64K, .sdiv64K, .div32K, .sdiv32K], exec (mk dst 0) s = .next (wrote s dst 0 1)) ∧
    (∀ mk ∈ [Instr.mod64K, .smod64K], exec (mk dst 0) s = .next (jumped s (s.pc + 1))) ∧
    (∀ mk ∈ [Instr.mod32K, .smod32K], exec (mk dst 0) s = .next (wrote s dst (widened (lowHalf d)) 1)) ∧
    ∀ src, s.regs.get src = some 0 →
      (∀ mk ∈ [Instr.div64X, .sdiv64X, .div32X, .sdiv32X], exec (mk dst src) s = .next (wrote s dst 0 1)) ∧
      (∀ mk ∈ [Instr.mod64X, .smod64X], exec (mk dst src) s = .next (jumped s (s.pc + 1))) ∧
      (∀ mk ∈ [Instr.mod32X, .smod32X], exec (mk dst src) s = .next (wrote s dst (widened (lowHalf d)) 1)))

/-- The nine byte swaps complete: bytes reversed exactly where host order and named order differ, upper bits zero
(R302). -/
def Obligations.ByteSwapResults : Prop :=
  ByteSwap .le16 16 (fun e => e == .big) ∧
  ByteSwap .le32 32 (fun e => e == .big) ∧
  ByteSwap .le64 64 (fun e => e == .big) ∧
  ByteSwap .be16 16 (fun e => e == .little) ∧
  ByteSwap .be32 32 (fun e => e == .little) ∧
  ByteSwap .be64 64 (fun e => e == .little) ∧
  ByteSwap .bswap16 16 (fun _ => true) ∧
  ByteSwap .bswap32 32 (fun _ => true) ∧
  ByteSwap .bswap64 64 (fun _ => true)

/-- The 22 conditional 64-bit jumps complete at pc + 1 + offset exactly when the condition holds, else at pc + 1,
and change only pc (R320, R321). -/
def Obligations.Jump64Results : Prop :=
  Jump64 .jeq64K .jeq64X (fun a b => a.toNat = b.toNat) ∧
  Jump64 .jgt64K .jgt64X (fun a b => b.toNat < a.toNat) ∧
  Jump64 .jge64K .jge64X (fun a b => b.toNat ≤ a.toNat) ∧
  Jump64 .jset64K .jset64X (fun a b => a.toNat &&& b.toNat ≠ 0) ∧
  Jump64 .jne64K .jne64X (fun a b => a.toNat ≠ b.toNat) ∧
  Jump64 .jsgt64K .jsgt64X (fun a b => b.toInt < a.toInt) ∧
  Jump64 .jsge64K .jsge64X (fun a b => b.toInt ≤ a.toInt) ∧
  Jump64 .jlt64K .jlt64X (fun a b => a.toNat < b.toNat) ∧
  Jump64 .jle64K .jle64X (fun a b => a.toNat ≤ b.toNat) ∧
  Jump64 .jslt64K .jslt64X (fun a b => a.toInt < b.toInt) ∧
  Jump64 .jsle64K .jsle64X (fun a b => a.toInt ≤ b.toInt)

/-- The 22 conditional 32-bit jumps complete on the low halves, at pc + 1 + offset exactly when the condition holds,
and change only pc (R360, R361). -/
def Obligations.Jump32Results : Prop :=
  Jump32 .jeq32K .jeq32X (fun a b => a.toNat = b.toNat) ∧
  Jump32 .jgt32K .jgt32X (fun a b => b.toNat < a.toNat) ∧
  Jump32 .jge32K .jge32X (fun a b => b.toNat ≤ a.toNat) ∧
  Jump32 .jset32K .jset32X (fun a b => a.toNat &&& b.toNat ≠ 0) ∧
  Jump32 .jne32K .jne32X (fun a b => a.toNat ≠ b.toNat) ∧
  Jump32 .jsgt32K .jsgt32X (fun a b => b.toInt < a.toInt) ∧
  Jump32 .jsge32K .jsge32X (fun a b => b.toInt ≤ a.toInt) ∧
  Jump32 .jlt32K .jlt32X (fun a b => a.toNat < b.toNat) ∧
  Jump32 .jle32K .jle32X (fun a b => a.toNat ≤ b.toNat) ∧
  Jump32 .jslt32K .jslt32X (fun a b => a.toInt < b.toInt) ∧
  Jump32 .jsle32K .jsle32X (fun a b => a.toInt ≤ b.toInt)

/-- JA and JA32 complete in every state at pc + 1 + displacement and change only pc; JA 0 and MOV64_X onto itself
change only pc (43_jump64.md section 2; 44_jump32.md section 2; 70_reset_and_hazards.md section 4). -/
def Obligations.UnconditionalJumps : Prop :=
  (∀ (s : State) (offset : BitVec 16), exec (.ja offset) s = .next (jumped s (s.pc + 1 + offset.toInt))) ∧
  (∀ (s : State) (imm : BitVec 32), exec (.ja32 imm) s = .next (jumped s (s.pc + 1 + imm.toInt))) ∧
  (∀ s : State, exec (.ja 0) s = .next (jumped s (s.pc + 1))) ∧
  ∀ (s : State) (r : Reg) (v : Word), s.regs.get r = some v → exec (.mov64X r r) s = .next (jumped s (s.pc + 1))

/-- An instruction faults with UnwrittenRegister exactly when a register it reads holds no value, naming the first
in the order dst, src, implicit (R515). -/
def Obligations.UnwrittenReads : Prop :=
  (∀ (i : Instr) (s : State), helperOf i = none →
    (∀ r, firstUnwritten s (readsOf i) = some r → exec i s = .next (faulted s (.unwrittenRegister s.pc r))) ∧
    (∀ (t : State) (p : Int) (r : Reg), s.status = .running → exec i s = .next t →
      t.status = .faulted (.unwrittenRegister p r) → firstUnwritten s (readsOf i) = some r ∧ p = s.pc)) ∧
  ∀ (i : Instr) (tb : HelperTable) (imm : BitVec 32) (s : State) (h : Helper), helperOf i = some (tb, imm) →
    (match tb with | .helpers => s.cfg.helpers | .btfHelpers => s.cfg.btfHelpers).lookup imm = some h →
    (∀ r, firstUnwritten s (callReads h.arity.val) = some r →
      exec i s = .next (faulted s (.unwrittenRegister s.pc r))) ∧
    (∀ (t : State) (p : Int) (r : Reg), s.status = .running → exec i s = .next t →
      t.status = .faulted (.unwrittenRegister p r) → firstUnwritten s (callReads h.arity.val) = some r ∧ p = s.pc)

/-- CALL_HELPER and CALL_BTF complete with the result and memory writes that the launch fixes for the arguments and
the memory (45_call_exit.md section 1; 45_call_exit.md section 2). The list of cases and the counter are the model's
choices (log entries 10, 11). -/
def Obligations.HelperCallResults : Prop :=
  ∀ (i : Instr) (tb : HelperTable) (imm : BitVec 32) (s : State) (h : Helper) (args : List Word) (k : HelperCase)
    (r : Word) (ws : List (Word × Byte)), helperOf i = some (tb, imm) →
    (match tb with | .helpers => s.cfg.helpers | .btfHelpers => s.cfg.btfHelpers).lookup imm = some h →
    argsOf s h.arity.val = some args → h.known.find? (caseHolds s args) = some k → k.answer = .result r ws →
    ∃ m, exec i s = .next { s with
          regs := { argsLost s.regs with r0 := some r }, mem := m, pc := s.pc + 1, draws := s.draws + 1 } ∧
      ∀ a, m.byte? a = (lastWrite ws a).or (s.mem.byte? a)

/-- Whatever a helper answers, the call either raises HelperFault or keeps x[6] to x[10] and the call stack, gives
x[0] a value and takes R1 to R5 away (45_call_exit.md section 2). The form of an answer is the model's choice (log
entry 11). -/
def Obligations.HelperCallPreserves : Prop :=
  ∀ (i : Instr) (tb : HelperTable) (imm : BitVec 32) (s : State) (h : Helper) (args : List Word),
    helperOf i = some (tb, imm) →
    (match tb with | .helpers => s.cfg.helpers | .btfHelpers => s.cfg.btfHelpers).lookup imm = some h →
    argsOf s h.arity.val = some args →
    ∃ t, exec i s = .next t ∧ (t = faulted s (.helperFault s.pc imm) ∨
      (t.status = s.status ∧ t.frames = s.frames ∧ t.pc = s.pc + 1 ∧
        (∀ r ∈ [Reg.r6, .r7, .r8, .r9, .r10], t.regs.get r = s.regs.get r) ∧
        (∃ v, t.regs.r0 = some v) ∧ ∀ r ∈ [Reg.r1, .r2, .r3, .r4, .r5], t.regs.get r = none))

/-- A helper call with an identifier outside its table raises UnknownHelper, whatever its argument registers hold
(R517). -/
def Obligations.UnknownHelperFirst : Prop :=
  (∀ (s : State) (imm : BitVec 32), s.cfg.helpers.lookup imm = none →
    exec (.callHelper imm) s = .next (faulted s (.unknownHelper s.pc imm .helpers))) ∧
  (∀ (s : State) (imm : BitVec 32), s.cfg.btfHelpers.lookup imm = none →
    exec (.callBtf imm) s = .next (faulted s (.unknownHelper s.pc imm .btfHelpers))) ∧
  ∀ (i : Instr) (s t : State) (p : Int) (imm : BitVec 32) (tb : HelperTable), s.status = .running →
    exec i s = .next t → t.status = .faulted (.unknownHelper p imm tb) →
    helperOf i = some (tb, imm) ∧ p = s.pc ∧
      (match tb with | .helpers => s.cfg.helpers | .btfHelpers => s.cfg.btfHelpers).lookup imm = none

/-- A known helper call raises UnwrittenRegister for its lowest unwritten argument, and HelperFault when the helper
fails on written arguments (60_exceptions.md section 1; 60_exceptions.md section 2). The list of cases is the
model's choice (log entry 11). -/
def Obligations.HelperArgumentsThenFailure : Prop :=
  ∀ (i : Instr) (tb : HelperTable) (imm : BitVec 32) (s : State) (h : Helper), helperOf i = some (tb, imm) →
    (match tb with | .helpers => s.cfg.helpers | .btfHelpers => s.cfg.btfHelpers).lookup imm = some h →
    (∀ r, firstUnwritten s (callReads h.arity.val) = some r →
      exec i s = .next (faulted s (.unwrittenRegister s.pc r))) ∧
    (∀ args k, argsOf s h.arity.val = some args → h.known.find? (caseHolds s args) = some k → k.answer = .failure →
      exec i s = .next (faulted s (.helperFault s.pc imm)))

/-- CALL_LOCAL completes below the depth limit: it pushes the record, enters the callee and changes nothing else
(45_call_exit.md section 1; 10_state.md section 4). -/
def Obligations.LocalCallResult : Prop :=
  ∀ (s : State) (offset : BitVec 16) (imm : BitVec 32), s.frames.length + 1 < s.cfg.maxCallDepth →
    exec (.callLocal offset imm) s = .next { s with
      frames := { ret := s.pc + 1, saved6 := s.regs.r6, saved7 := s.regs.r7, saved8 := s.regs.r8,
                  saved9 := s.regs.r9, fp := s.regs.r10 } :: s.frames
      regs := { s.regs with
        r0 := none, r6 := none, r7 := none, r8 := none, r9 := none
        r10 := BitVec.ofInt 64 ((s.regs.r10.toNat : Int) - s.cfg.stackSize) }
      pc := s.pc + 1 + callDistance s.cfg offset imm }

/-- CALL_LOCAL raises CallDepthExceeded exactly when length(frames) + 1 >= MAX_CALL_DEPTH, and a call that completes
leaves at most MAX_CALL_DEPTH activations live (R518). -/
def Obligations.CallDepthLimit : Prop :=
  (∀ (s : State) (offset : BitVec 16) (imm : BitVec 32), s.cfg.maxCallDepth ≤ s.frames.length + 1 →
    exec (.callLocal offset imm) s = .next (faulted s (.callDepthExceeded s.pc))) ∧
  (∀ (i : Instr) (s t : State) (p : Int), s.status = .running → exec i s = .next t →
    t.status = .faulted (.callDepthExceeded p) →
    (∃ offset imm, i = .callLocal offset imm) ∧ p = s.pc ∧ s.cfg.maxCallDepth ≤ s.frames.length + 1) ∧
  (∀ (s t : State) (offset : BitVec 16) (imm : BitVec 32), s.status = .running →
    exec (.callLocal offset imm) s = .next t → t.status = .running → t.frames.length + 1 ≤ t.cfg.maxCallDepth)

/-- EXIT with a value in R0 completes: Exited(v) with an empty call stack, the return to the caller otherwise
(45_call_exit.md section 1; 70_reset_and_hazards.md section 2). -/
def Obligations.ExitResults : Prop :=
  (∀ (s : State) (v : Word), s.regs.r0 = some v → s.frames = [] →
    exec .exit s = .next { s with status := .exited v }) ∧
  (∀ (s : State) (v : Word) (f : Frame) (rest : List Frame), s.regs.r0 = some v → s.frames = f :: rest →
    exec .exit s = .next { s with
      frames := rest
      regs := { argsLost s.regs with
        r6 := f.saved6, r7 := f.saved7, r8 := f.saved8, r9 := f.saved9, r10 := f.fp }
      pc := f.ret })

/-- Returning from a program-local call gives back R6 to R10, the call stack and the slot after the call, whatever
the callee did (45_call_exit.md section 2; 10_state.md section 4). -/
def Obligations.CallThenReturn : Prop :=
  ∀ (s t u : State) (offset : BitVec 16) (imm : BitVec 32) (v : Word), s.status = .running →
    exec (.callLocal offset imm) s = .next t → t.status = .running → u.frames = t.frames → u.regs.r0 = some v →
    ∃ w, exec .exit u = .next w ∧ w.frames = s.frames ∧ w.pc = s.pc + 1 ∧ w.status = u.status ∧ w.mem = u.mem ∧
      (∀ r ∈ [Reg.r6, .r7, .r8, .r9, .r10], w.regs.get r = s.regs.get r) ∧
      w.regs.r0 = some v ∧ ∀ r ∈ [Reg.r1, .r2, .r3, .r4, .r5], w.regs.get r = none

/-- An access is admitted exactly when it does not wrap, lies inside one region or the stack that allows its kind,
and is aligned as R79 asks (R71). -/
def Obligations.AdmissionExact : Prop :=
  (∀ (s : State) (a : Word) (n : MemSize),
    ((∃ v, s.memRead a n = .ok v) ↔ admitted s.cfg a n .read = true) ∧
    (admitted s.cfg a n .read = false → ∃ why, s.memRead a n = .error (.memoryFault s.pc a n .read why)) ∧
    (∀ v, (∃ t, s.memWrite a n v = .ok t) ↔ admitted s.cfg a n .write = true) ∧
    (∀ v, admitted s.cfg a n .write = false →
      ∃ why, s.memWrite a n v = .error (.memoryFault s.pc a n .write why)) ∧
    (∀ f, (∃ p, s.atomicEvent a n f = .ok p) ↔ admitted s.cfg a n .atomic = true) ∧
    (∀ f, admitted s.cfg a n .atomic = false →
      ∃ why, s.atomicEvent a n f = .error (.memoryFault s.pc a n .atomic why))) ∧
  (∀ (i : Instr) (s : State) (b : Reg) (base : Word) (offset : BitVec 16) (n : MemSize) (k : AccessKind),
    accessOf i = some (b, offset, n, k) → firstUnwritten s (readsOf i) = none → s.regs.get b = some base →
    admitted s.cfg (address base offset) n k = false →
    ∃ why, exec i s = .next (faulted s (.memoryFault s.pc (address base offset) n k why)))

/-- Loads, stores and atomic operations raise MemoryFault with the first reason of Wraps, Misaligned, NotMapped,
NoPermission that applies, and in no other case (R516). -/
def Obligations.MemoryFaultReasons : Prop :=
  ∀ (i : Instr) (s : State) (b : Reg) (base : Word) (offset : BitVec 16) (n : MemSize) (k : AccessKind),
    accessOf i = some (b, offset, n, k) → firstUnwritten s (readsOf i) = none → s.regs.get b = some base →
    (∀ why, deniedBecause s.cfg (address base offset) n k why = true →
      exec i s = .next (faulted s (.memoryFault s.pc (address base offset) n k why))) ∧
    (∀ (t : State) (p : Int) (a : Word) (m : MemSize) (k' : AccessKind) (why : MemReason), s.status = .running →
      exec i s = .next t → t.status = .faulted (.memoryFault p a m k' why) →
      p = s.pc ∧ a = address base offset ∧ m = n ∧ k' = k ∧ deniedBecause s.cfg a n k why = true)

/-- The seven loads complete where the access is admitted: dst takes the bytes read, weighed by ENDIAN, zero- or
sign-extended (46_load_store.md section 2; 20_memory.md section 1). The counter draws is the model's choice (log
entry 10). -/
def Obligations.LoadResults : Prop :=
  Load .ldxb .b (fun x => BitVec.ofNat 64 x) ∧ Load .ldxh .h (fun x => BitVec.ofNat 64 x) ∧
  Load .ldxw .w (fun x => BitVec.ofNat 64 x) ∧ Load .ldxdw .dw (fun x => BitVec.ofNat 64 x) ∧
  Load .ldxsb .b (fun x => BitVec.ofInt 64 (signedLow 8 x)) ∧
  Load .ldxsh .h (fun x => BitVec.ofInt 64 (signedLow 16 x)) ∧
  Load .ldxsw .w (fun x => BitVec.ofInt 64 (signedLow 32 x))

/-- The eight stores complete where the access is admitted: exactly the n bytes at the address change, and pc
(46_load_store.md section 2; 20_memory.md section 1). -/
def Obligations.StoreResults : Prop :=
  StoreImm .stb .b ∧ StoreImm .sth .h ∧ StoreImm .stw .w ∧ StoreImm .stdw .dw ∧
  StoreReg .stxb .b ∧ StoreReg .stxh .h ∧ StoreReg .stxw .w ∧ StoreReg .stxdw .dw

/-- The simple atomic operations and the exchanges complete where admitted: memory takes the new value, src the old
one under BPF_FETCH (47_atomic.md section 1; 47_atomic.md section 2). The counter draws is the model's choice (log
entry 10). -/
def Obligations.AtomicResults : Prop :=
  AtomicPair .atomicAdd32 .atomicFetchAdd32 .w (· + ·) ∧ AtomicPair .atomicAdd64 .atomicFetchAdd64 .dw (· + ·) ∧
  AtomicPair .atomicOr32 .atomicFetchOr32 .w (· ||| ·) ∧ AtomicPair .atomicOr64 .atomicFetchOr64 .dw (· ||| ·) ∧
  AtomicPair .atomicAnd32 .atomicFetchAnd32 .w (· &&& ·) ∧ AtomicPair .atomicAnd64 .atomicFetchAnd64 .dw (· &&& ·) ∧
  AtomicPair .atomicXor32 .atomicFetchXor32 .w (· ^^^ ·) ∧ AtomicPair .atomicXor64 .atomicFetchXor64 .dw (· ^^^ ·) ∧
  AtomicExchange .atomicXchg32 .w ∧ AtomicExchange .atomicXchg64 .dw

/-- CMPXCHG completes where admitted: R0 takes the old value, and memory takes src exactly when the old value equals
the low bits of R0 (47_atomic.md section 1; 47_atomic.md section 2). The counter draws is the model's choice (log
entry 10). -/
def Obligations.CompareExchangeResults : Prop :=
  AtomicCompare .atomicCmpxchg32 .w ∧ AtomicCompare .atomicCmpxchg64 .dw

/-- A store and a load of the same width and address, at bytes no other agent may change, give back the low bits of
the stored register (20_memory.md section 7; 20_memory.md section 1). -/
def Obligations.StoreThenLoadReturnsValue : Prop :=
  StoreThenLoad .stxb .ldxb .b ∧ StoreThenLoad .stxh .ldxh .h ∧ StoreThenLoad .stxw .ldxw .w ∧
  StoreThenLoad .stxdw .ldxdw .dw

/-- After an 8-byte store of 0x1122334455667788, reads of 1, 2 and 4 of its bytes give the values of R78 in both
byte orders (R78). -/
def Obligations.MixedWidthsSeeTheSameBytes : Prop :=
  ∀ (s : State) (dst src : Reg) (offset : BitVec 16) (base : Word), s.regs.get dst = some base →
    s.regs.get src = some 0x1122334455667788 → admitted s.cfg (address base offset) .dw .write = true →
    admitted s.cfg (address base offset) .dw .read = true →
    (∀ k, k < 8 → unshared s.cfg ((address base offset).toNat + k) = true) →
    ∃ t, exec (.stxdw dst src offset) s = .next t ∧
      (s.cfg.endian = .little → t.memRead (address base offset) .b = .ok 0x88 ∧
        t.memRead (address base offset) .h = .ok 0x7788 ∧
        t.memRead (address base offset + 4) .w = .ok 0x11223344) ∧
      (s.cfg.endian = .big → t.memRead (address base offset) .b = .ok 0x11 ∧
        t.memRead (address base offset) .h = .ok 0x1122 ∧
        t.memRead (address base offset + 4) .w = .ok 0x55667788)

/-- LDDW completes in every state: x[dst] takes next_imm * 2^32 + imm as bit patterns and pc goes up by 2
(48_imm64.md section 2; 30_encoding.md section 1). -/
def Obligations.WideImmediate : Prop :=
  ∀ (s : State) (dst : Reg) (imm nextImm : BitVec 32),
    exec (.lddw dst imm nextImm) s = .next (wrote s dst (BitVec.ofNat 64 (nextImm.toNat * 2 ^ 32 + imm.toNat)) 2)

/-- The six wide loads that ask the platform complete with its answer, and raise UnresolvedReference exactly where
it has none (R519). -/
def Obligations.PlatformReferences : Prop :=
  WideRef .ldMapFd .mapFd (fun s imm => s.cfg.mapByFd.lookup imm) ∧
  WideMapValue .ldMapValFd .mapValFd (fun s imm => s.cfg.mapByFd.lookup imm) ∧
  WideRef .ldVarAddr .varAddr (fun s imm => s.cfg.varAddr.lookup imm) ∧
  WideRef .ldCodeAddr .codeAddr (fun s imm => s.cfg.codeAddr.lookup (s.pc, imm)) ∧
  WideRef .ldMapIdx .mapIdx (fun s imm => s.cfg.mapByIdx.lookup imm) ∧
  WideMapValue .ldMapValIdx .mapValIdx (fun s imm => s.cfg.mapByIdx.lookup imm)

/-- LD_ABS and LD_IND always take IllegalInstruction(pc, W) with the logical word of the slot, and change nothing
else (R500). -/
def Obligations.LegacyAlwaysIllegal : Prop :=
  (∀ (s : State) (slot : Slot) (rest : List Slot), s.status = .running → 0 ≤ s.pc →
    s.prog.drop s.pc.toNat = slot :: rest → (slot.b0 &&& 0xe7 = 0x20 ∨ slot.b0 &&& 0xe7 = 0x40) →
    step s = .next (faulted s (.illegalInstruction s.pc (wordOf (slot.fields s.cfg.endian)) none))) ∧
  (∀ (s : State) (size : MemSize) (dst src : BitVec 4) (offset : BitVec 16) (imm : BitVec 32),
    exec (.ldAbs size dst src offset imm) s =
      .next (faulted s (.illegalInstruction s.pc (wordOf ⟨0x20 ||| size.bits, dst, src, offset, imm⟩) none)) ∧
    exec (.ldInd size dst src offset imm) s =
      .next (faulted s (.illegalInstruction s.pc (wordOf ⟨0x40 ||| size.bits, dst, src, offset, imm⟩) none)))

/-- An instruction changes no register but those R35 gives it: its written field and the implicit registers of
calls, EXIT and CMPXCHG (R35). -/
def Obligations.RegisterFrame : Prop :=
  ∀ (i : Instr) (s t : State) (r : Reg), exec i s = .next t → r ∉ writesOf i → t.regs.get r = s.regs.get r

/-- An instruction that is no helper call changes no byte of memory outside the n bytes its store or atomic access
addresses, and none if it makes no such access (20_memory.md section 1; 46_load_store.md section 1; 47_atomic.md
section 1). -/
def Obligations.MemoryFrame : Prop :=
  ∀ (i : Instr) (s t : State) (c : Nat), helperOf i = none → exec i s = .next t → notStoredTo i s c →
    t.mem.byte? c = s.mem.byte? c

/-- A step leaves the call stack alone, pushes one record by CALL_LOCAL or pops one by EXIT, and R10 changes in
those two cases only (10_state.md section 1; 10_state.md section 4). -/
def Obligations.CallStackDiscipline : Prop :=
  ∀ s t : State, step s = .next t →
    (t.frames = s.frames ∧ t.regs.r10 = s.regs.r10) ∨
    (∃ offset imm f, s.fetch = .ok (.callLocal offset imm) ∧ t.frames = f :: s.frames ∧ f.ret = s.pc + 1 ∧
      f.fp = s.regs.r10) ∨
    (∃ f, s.fetch = .ok .exit ∧ s.frames = f :: t.frames ∧ t.regs.r10 = f.fp)

/-- An instruction that does not fault leaves pc where R37 says: pc + 1, pc + 2 for a wide one, the jump target, the
call target or the return slot (R37). -/
def Obligations.ProgramCounterAdvance : Prop :=
  ∀ (i : Instr) (s t : State), s.status = .running → exec i s = .next t →
    (isFault t.status = false → t.pc ∈ nextPcs s i) ∧ (isFault t.status = true → t.pc = s.pc)

/-- No step changes the program text or a launch parameter (10_state.md section 5; 20_memory.md section 7). -/
def Obligations.ParametersNeverChange : Prop :=
  ∀ s t : State, step s = .next t → t.prog = s.prog ∧ t.cfg = s.cfg

/-- A step that faults changes the status and nothing else, and no later step is taken (R512). -/
def Obligations.FaultsArePrecise : Prop :=
  ∀ (s t : State) (k : FaultInfo), s.status = .running → step s = .next t → t.status = .faulted k →
    t = { s with status := .faulted k } ∧
    (match k with
      | .pcOutOfRange p | .illegalInstruction p _ _ | .unwrittenRegister p _ | .memoryFault p _ _ _ _
      | .unknownHelper p _ _ | .callDepthExceeded p | .unresolvedReference p _ _ | .helperFault p _ => p) = s.pc ∧
    ∀ u, step t ≠ .next u

/-- Every running state has a next state: the machine never stops on a program, an instruction or an operand
(70_reset_and_hazards.md section 3; 60_exceptions.md section 1). -/
def Obligations.EveryRunningStateSteps : Prop :=
  ∀ s : State, s.status = .running → ∃ t, step s = .next t

/-- A launch is Running, and an execution that is Exited or Faulted never takes another step (R42). That such a step
answers a stop of its own is log entry 1. -/
def Obligations.FinishedNeverSteps : Prop :=
  (∀ (c : Config) (p : List Slot) (args : List Word) (m : Memory), (State.launch c p args m).status = .running) ∧
  (∀ (s : State) (v : Word), s.status = .exited v → ∀ t, step s ≠ .next t) ∧
  ∀ (s : State) (k : FaultInfo), s.status = .faulted k → ∀ t, step s ≠ .next t

/-- An execution becomes Exited(v) only by EXIT with an empty call stack and v in R0, and nothing but the status
changes then (70_reset_and_hazards.md section 2). -/
def Obligations.ExitIsTheOnlyGoodEnd : Prop :=
  ∀ (s t : State) (v : Word), s.status = .running → step s = .next t → t.status = .exited v →
    s.fetch = .ok .exit ∧ s.frames = [] ∧ s.regs.r0 = some v ∧ t = { s with status := .exited v }

/-- When the slots from pc on decode to an instruction, the step is exec of that instruction at that state
(00_scope.md section 7; 60_exceptions.md section 2). -/
def Obligations.StepRunsDecodedInstruction : Prop :=
  ∀ (s : State) (i : Instr), s.status = .running → 0 ≤ s.pc →
    decode s.cfg.endian s.cfg.localCallDisp (s.prog.drop s.pc.toNat) = .ok i → step s = exec i s

/-- A step with pc below 0 or at or past the end of the program raises PcOutOfRange of that pc, and no other step
does (R513). -/
def Obligations.FetchOutOfRange : Prop :=
  (∀ s : State, s.status = .running → (s.pc < 0 ∨ (s.prog.length : Int) ≤ s.pc) →
    step s = .next (faulted s (.pcOutOfRange s.pc))) ∧
  ∀ (s t : State) (p : Int), s.status = .running → step s = .next t → t.status = .faulted (.pcOutOfRange p) →
    p = s.pc ∧ (s.pc < 0 ∨ (s.prog.length : Int) ≤ s.pc)

/-- A slot at pc that decodes to no instruction raises IllegalInstruction with its logical word, and W2 exactly for
opcode 0x18 with a second slot (60_exceptions.md section 1; 30_encoding.md section 4). -/
def Obligations.IllegalSlotsFault : Prop :=
  ∀ (s : State) (slot : Slot) (rest : List Slot) (why : Illegal), s.status = .running → 0 ≤ s.pc →
    s.prog.drop s.pc.toNat = slot :: rest →
    decode s.cfg.endian s.cfg.localCallDisp (slot :: rest) = .error why →
    step s = .next (faulted s (.illegalInstruction s.pc (wordOf (slot.fields s.cfg.endian))
      (if slot.b0 = 0x18 then rest.head?.map (fun g => wordOf (g.fields s.cfg.endian)) else none)))

/-- Opcode 0x18 is refused without a second slot, with a second slot whose first 32 bits are not zero, and with an
unused next_imm that is not zero (R152). -/
def Obligations.IllFormedWideRefused : Prop :=
  ∀ (e : Endian) (disp : LocalCallDisp) (slot : Slot) (rest : List Slot), slot.b0 = 0x18 →
    (rest = [] ∨
      (∃ g tail, rest = g :: tail ∧ (g.b0 ≠ 0 ∨ g.b1 ≠ 0 ∨ g.b2 ≠ 0 ∨ g.b3 ≠ 0)) ∨
      (∃ g tail, rest = g :: tail ∧ (slot.fields e).src ∈ [1, 3, 4, 5] ∧ (g.fields e).imm ≠ 0)) →
    (∃ why, decode e disp (slot :: rest) = .error why) ∧
    ∀ s : State, s.status = .running → 0 ≤ s.pc → s.cfg.endian = e → s.cfg.localCallDisp = disp →
      s.prog.drop s.pc.toNat = slot :: rest →
      ∃ w w2, step s = .next (faulted s (.illegalInstruction s.pc w w2))

/-- The decoder reads an instruction from some fields of an opcode exactly when R151 lists the opcode as defined or
legacy (R151). -/
def Obligations.DefinedOpcodesExactly : Prop :=
  definedOpcodes.length = 119 ∧ legacyOpcodes.length = 8 ∧
  ∀ op : BitVec 8,
    (∃ (disp : LocalCallDisp) (f : Fields) (next : Option Fields) (i : Instr),
      f.opcode = op ∧ decodeFields disp f next = .ok i) ↔
    op.toNat ∈ definedOpcodes ∨ op.toNat ∈ legacyOpcodes

/-- The fields of a slot are the ones of R112 in both byte orders, their packing is the word W, and little-endian W
is the slot read as a u64 (30_encoding.md section 1). -/
def Obligations.LogicalWord : Prop :=
  (∀ f : Fields, f.word = wordOf f) ∧
  (∀ s : Slot, (s.fields .little).opcode = s.b0 ∧ (s.fields .little).dst.toNat = s.b1.toNat % 16 ∧
    (s.fields .little).src.toNat = s.b1.toNat / 16 ∧
    (s.fields .little).offset.toNat = s.b2.toNat + s.b3.toNat * 2 ^ 8 ∧
    (s.fields .little).imm.toNat =
      s.b4.toNat + s.b5.toNat * 2 ^ 8 + s.b6.toNat * 2 ^ 16 + s.b7.toNat * 2 ^ 24) ∧
  (∀ s : Slot, (s.fields .big).opcode = s.b0 ∧ (s.fields .big).dst.toNat = s.b1.toNat / 16 ∧
    (s.fields .big).src.toNat = s.b1.toNat % 16 ∧
    (s.fields .big).offset.toNat = s.b2.toNat * 2 ^ 8 + s.b3.toNat ∧
    (s.fields .big).imm.toNat =
      s.b4.toNat * 2 ^ 24 + s.b5.toNat * 2 ^ 16 + s.b6.toNat * 2 ^ 8 + s.b7.toNat) ∧
  ∀ s : Slot, (s.fields .little).word.toNat =
    s.b0.toNat + s.b1.toNat * 2 ^ 8 + s.b2.toNat * 2 ^ 16 + s.b3.toNat * 2 ^ 24 + s.b4.toNat * 2 ^ 32 +
      s.b5.toNat * 2 ^ 40 + s.b6.toNat * 2 ^ 48 + s.b7.toNat * 2 ^ 56

/-- Decoding the slots of any well-formed instruction, in either byte order and whatever follows them, gives the
instruction back (30_encoding.md section 1; 30_encoding.md section 4). -/
def Obligations.DecodeEncodeRoundTrip : Prop :=
  ∀ (e : Endian) (disp : LocalCallDisp) (i : Instr) (rest : List Slot), i.wf disp = true →
    decode e disp (encode e i ++ rest) = .ok i

/-- Whatever the decoder reads is well-formed, and its encoding is exactly the slots it was read from
(30_encoding.md section 4). -/
def Obligations.EncodeDecodeRoundTrip : Prop :=
  ∀ (e : Endian) (disp : LocalCallDisp) (slot : Slot) (rest : List Slot) (i : Instr),
    decode e disp (slot :: rest) = .ok i →
    i.wf disp = true ∧ (∃ tail, slot :: rest = encode e i ++ tail) ∧
      (encode e i).length = (if slot.b0 = 0x18 then 2 else 1)

/-- Every step keeps the invariant: canonical memory, at most MAX_CALL_DEPTH activations, R10 and every saved fp at
the frame of their depth (10_state.md section 1; 10_state.md section 4; 20_memory.md section 4). The canonical form
is the model's choice (log entry 22). -/
def Obligations.InvariantKeptByEveryStep : Prop :=
  ∀ s t : State, s.inv = true → step s = .next t → t.inv = true

/-- State.reset satisfies the invariant, and so does every launch with canonical memory and MAX_CALL_DEPTH at least
1 (70_reset_and_hazards.md section 1). The values of State.reset are the model's choices (log entries 3, 4, 5). -/
def Obligations.InvariantAtLaunch : Prop :=
  State.reset.inv = true ∧
  ∀ (c : Config) (p : List Slot) (args : List Word) (m : Memory), m.wf = true → 1 ≤ c.maxCallDepth →
    (State.launch c p args m).inv = true

/-- Under the launch obligations, every aligned access inside the current activation's frame is admitted, for every
kind and depth (20_memory.md section 4). -/
def Obligations.CurrentFrameIsAccessible : Prop :=
  ∀ (s : State) (args : List Word), launchOk s.cfg args = true → s.inv = true → s.cfg.stackSize ≤ s.regs.r10.toNat ∧
    ∀ (a : Word) (n : MemSize) (k : AccessKind), s.regs.r10.toNat - s.cfg.stackSize ≤ a.toNat →
      a.toNat + sizeBytes n ≤ s.regs.r10.toNat → a.toNat % sizeBytes n = 0 → admitted s.cfg a n k = true ∧
      denial s.cfg a n k = none

/-- The launch state holds what the table of the launch gives it: pc 0, arguments in R1 to R5, STACK_TOP in R10,
region bytes, everything else unwritten or empty (70_reset_and_hazards.md section 1). -/
def Obligations.LaunchState : Prop :=
  ∀ (c : Config) (p : List Slot) (args : List Word) (m : Memory), args.length ≤ 5 →
    (State.launch c p args m).pc = 0 ∧ (State.launch c p args m).regs.r0 = none ∧
    (∀ k : Fin 5, (State.launch c p args m).regs.get ([Reg.r1, .r2, .r3, .r4, .r5].get k) = args[k.val]?) ∧
    (∀ r ∈ [Reg.r6, .r7, .r8, .r9], (State.launch c p args m).regs.get r = none) ∧
    (State.launch c p args m).regs.r10 = c.stackTop ∧ (State.launch c p args m).frames = [] ∧
    (State.launch c p args m).status = .running ∧ (State.launch c p args m).cfg = c ∧
    (State.launch c p args m).prog = p ∧
    ∀ a, (State.launch c p args m).mem.byte? a =
      if insideStack c a 1 = false ∧ c.regions.any (fun g => insideRegion g a 1) = true then m.byte? a else none

/-- Two memories in canonical form with the same value at every address are equal (20_memory.md section 1). The
canonical form is the model's choice (log entry 22). -/
def Obligations.CanonicalMemory : Prop :=
  ∀ m₁ m₂ : Memory, m₁.wf = true → m₂.wf = true → (∀ a, m₁.byte? a = m₂.byte? a) → m₁ = m₂

/-- Writing a register changes that register and no other, and a write of R10 changes nothing (10_state.md section
1). That a write of R10 changes nothing is the model's choice for terms no decoder gives (log entry 17). -/
def Obligations.RegisterFileUpdates : Prop :=
  ∀ (f : RegFile) (r q : Reg) (v : Option Word),
    (r ≠ .r10 → (f.put r v).get r = v) ∧ (q ≠ r → (f.put r v).get q = f.get q) ∧ f.put .r10 v = f

/-- Every load, store and atomic addresses (x[base] + sext_64(offset)) mod 2^64: base src for loads, dst for stores
and atomics (R72). -/
def Obligations.EffectiveAddressFormula : Prop :=
  (∀ (base : Word) (offset : BitVec 16), effectiveAddress base offset = address base offset) ∧
  (∀ (i : Instr) (s : State) (b : Reg) (base : Word) (offset : BitVec 16) (n : MemSize) (k : AccessKind),
    accessOf i = some (b, offset, n, k) →
    (b.number = if k = .read then i.fields.src else i.fields.dst) ∧ offset = i.fields.offset ∧
    (firstUnwritten s (readsOf i) = none → s.regs.get b = some base →
      (admitted s.cfg (address base offset) n k = true → ∃ t, exec i s = .next t ∧ t.status = s.status) ∧
      ∀ why, deniedBecause s.cfg (address base offset) n k why = true →
        exec i s = .next (faulted s (.memoryFault s.pc (address base offset) n k why))) ∧
    (b ∉ writesOf i → ∀ t, exec i s = .next t → t.regs.get b = s.regs.get b))

/-- No decodable field writes R10 and no register field holds 11 to 15; R10 may stand wherever a register is only
read (10_state.md section 1; 30_encoding.md section 4). -/
def Obligations.FramePointerIsReadOnly : Prop :=
  (∀ (disp : LocalCallDisp) (f : Fields) (next : Option Fields), f.opcode.toNat ∉ legacyOpcodes →
    (11 ≤ f.dst.toNat ∨ 11 ≤ f.src.toNat → ∃ why, decodeFields disp f next = .error why) ∧
    (f.opcode.toNat % 8 ∈ [1, 4, 7] ∨ f.opcode = 0x18 → f.dst = 10 → ∃ why, decodeFields disp f next = .error why) ∧
    (f.opcode = 0xc3 ∨ f.opcode = 0xdb → f.imm.toNat ∈ [0x01, 0x41, 0x51, 0xa1, 0xe1] → f.src = 10 →
      ∃ why, decodeFields disp f next = .error why)) ∧
  (∀ (disp : LocalCallDisp) (next : Option Fields) (offset : BitVec 16),
    decodeFields disp ⟨0x7b, 10, 10, offset, 0⟩ next = .ok (.stxdw .r10 .r10 offset) ∧
    decodeFields disp ⟨0x1d, 10, 10, offset, 0⟩ next = .ok (.jeq64X .r10 .r10 offset) ∧
    decodeFields disp ⟨0xdb, 10, 10, offset, 0xf1⟩ next = .ok (.atomicCmpxchg64 .r10 .r10 offset) ∧
    decodeFields disp ⟨0xbf, 6, 10, 0, 0⟩ next = .ok (.mov64X .r6 .r10)) ∧
  (∀ mk ∈ arithmeticForms, ∀ dst : Reg, dst ≠ .r10 → (mk dst .r10).fields.src = 10 ∧ decodesBack (mk dst .r10)) ∧
  (∀ mk ∈ loadForms, ∀ (dst : Reg) (offset : BitVec 16), dst ≠ .r10 →
    (mk dst .r10 offset).fields.src = 10 ∧ decodesBack (mk dst .r10 offset)) ∧
  (∀ mk ∈ immediateForms, ∀ (offset : BitVec 16) (imm : BitVec 32),
    (mk .r10 offset imm).fields.dst = 10 ∧ decodesBack (mk .r10 offset imm)) ∧
  (∀ mk ∈ readBothForms, ∀ (r : Reg) (offset : BitVec 16),
    (mk .r10 r offset).fields.dst = 10 ∧ decodesBack (mk .r10 r offset) ∧
    (mk r .r10 offset).fields.src = 10 ∧ decodesBack (mk r .r10 offset)) ∧
  (∀ mk ∈ fetchForms, ∀ (src : Reg) (offset : BitVec 16), src ≠ .r10 →
    (mk .r10 src offset).fields.dst = 10 ∧ decodesBack (mk .r10 src offset)) ∧
  ∀ (disp : LocalCallDisp) (i : Instr), i.wf disp = true → Reg.r10 ∈ writesOf i →
    i = .exit ∨ ∃ offset imm, i = .callLocal offset imm

/-- A word of every family, written out from the spec, decodes to its instruction in both byte orders
(30_encoding.md section 1; 95_test_vectors.md part 1; 96_test_vectors_derived.md). -/
def Obligations.SpecWordsDecode : Prop :=
  decode .little .offset [⟨0x07, 0x01, 0x00, 0x00, 0x44, 0x33, 0x22, 0x11⟩] = .ok (.add64K .r1 0x11223344) ∧
    decode .big .offset [⟨0x07, 0x10, 0x00, 0x00, 0x11, 0x22, 0x33, 0x44⟩] = .ok (.add64K .r1 0x11223344) ∧
  decode .little .offset [⟨0x0c, 0x21, 0x00, 0x00, 0x00, 0x00, 0x00, 0x00⟩] = .ok (.add32X .r1 .r2) ∧
    decode .big .offset [⟨0x0c, 0x12, 0x00, 0x00, 0x00, 0x00, 0x00, 0x00⟩] = .ok (.add32X .r1 .r2) ∧
  decode .little .offset [⟨0xd4, 0x01, 0x00, 0x00, 0x10, 0x00, 0x00, 0x00⟩] = .ok (.le16 .r1) ∧
    decode .big .offset [⟨0xd4, 0x10, 0x00, 0x00, 0x00, 0x00, 0x00, 0x10⟩] = .ok (.le16 .r1) ∧
  decode .little .offset [⟨0x05, 0x00, 0xfd, 0xff, 0x00, 0x00, 0x00, 0x00⟩] = .ok (.ja 0xfffd) ∧
    decode .big .offset [⟨0x05, 0x00, 0xff, 0xfd, 0x00, 0x00, 0x00, 0x00⟩] = .ok (.ja 0xfffd) ∧
  decode .little .offset [⟨0x1d, 0x21, 0x04, 0x00, 0x00, 0x00, 0x00, 0x00⟩] = .ok (.jeq64X .r1 .r2 4) ∧
    decode .big .offset [⟨0x1d, 0x12, 0x00, 0x04, 0x00, 0x00, 0x00, 0x00⟩] = .ok (.jeq64X .r1 .r2 4) ∧
  decode .little .offset [⟨0x06, 0x00, 0x00, 0x00, 0xa0, 0x86, 0x01, 0x00⟩] = .ok (.ja32 100000) ∧
    decode .big .offset [⟨0x06, 0x00, 0x00, 0x00, 0x00, 0x01, 0x86, 0xa0⟩] = .ok (.ja32 100000) ∧
  decode .little .offset [⟨0x85, 0x10, 0x02, 0x00, 0x00, 0x00, 0x00, 0x00⟩] = .ok (.callLocal 2 0) ∧
    decode .big .offset [⟨0x85, 0x01, 0x00, 0x02, 0x00, 0x00, 0x00, 0x00⟩] = .ok (.callLocal 2 0) ∧
  decode .little .offset [⟨0x95, 0x00, 0x00, 0x00, 0x00, 0x00, 0x00, 0x00⟩] = .ok (.exit) ∧
    decode .big .offset [⟨0x95, 0x00, 0x00, 0x00, 0x00, 0x00, 0x00, 0x00⟩] = .ok (.exit) ∧
  decode .little .offset [⟨0x61, 0x21, 0xfc, 0xff, 0x00, 0x00, 0x00, 0x00⟩] = .ok (.ldxw .r1 .r2 0xfffc) ∧
    decode .big .offset [⟨0x61, 0x12, 0xff, 0xfc, 0x00, 0x00, 0x00, 0x00⟩] = .ok (.ldxw .r1 .r2 0xfffc) ∧
  decode .little .offset [⟨0x7a, 0x0a, 0xf8, 0xff, 0xff, 0xff, 0xff, 0x7f⟩] = .ok (.stdw .r10 0xfff8 0x7fffffff) ∧
    decode .big .offset [⟨0x7a, 0xa0, 0xff, 0xf8, 0x7f, 0xff, 0xff, 0xff⟩] = .ok (.stdw .r10 0xfff8 0x7fffffff) ∧
  decode .little .offset [⟨0xdb, 0x21, 0x08, 0x00, 0x01, 0x00, 0x00, 0x00⟩] = .ok (.atomicFetchAdd64 .r1 .r2 8) ∧
    decode .big .offset [⟨0xdb, 0x12, 0x00, 0x08, 0x00, 0x00, 0x00, 0x01⟩] = .ok (.atomicFetchAdd64 .r1 .r2 8) ∧
  decode .little .offset [⟨0x18, 0x01, 0x00, 0x00, 0x88, 0x77, 0x66, 0x55⟩, ⟨0x00, 0x00, 0x00, 0x00, 0x44, 0x33, 0x22, 0x11⟩] = .ok (.lddw .r1 0x55667788 0x11223344) ∧
    decode .big .offset [⟨0x18, 0x10, 0x00, 0x00, 0x55, 0x66, 0x77, 0x88⟩, ⟨0x00, 0x00, 0x00, 0x00, 0x11, 0x22, 0x33, 0x44⟩] = .ok (.lddw .r1 0x55667788 0x11223344) ∧
  decode .little .offset [⟨0x20, 0x00, 0x00, 0x00, 0x0e, 0x00, 0x00, 0x00⟩] = .ok (.ldAbs .w 0 0 0 14) ∧
    decode .big .offset [⟨0x20, 0x00, 0x00, 0x00, 0x00, 0x00, 0x00, 0x0e⟩] = .ok (.ldAbs .w 0 0 0 14)

/-- A read sees the listed value of an unshared byte, any value of an unwritten stack byte, one launch value of an
unlisted region byte, an input for a shared one (20_memory.md section 4; 20_memory.md section 7). The free values
are the model's form of what the spec leaves open (log entries 7, 8, 9). -/
def Obligations.BytesSeenByReads : Prop :=
  ∀ (s : State) (a : Nat),
    (unshared s.cfg a = true → ∀ v, s.mem.byte? a = some v → s.seenByte a = v) ∧
    (insideStack s.cfg a 1 = true → s.mem.byte? a = none → s.seenByte a = Config.unspecifiedByte s.draws a) ∧
    (unshared s.cfg a = true → insideStack s.cfg a 1 = false → s.mem.byte? a = none →
      s.seenByte a = Config.launchByte a) ∧
    (unshared s.cfg a = false → s.seenByte a = Config.sharedByte s.draws a (s.mem.byte? a))

/-- A byte no other agent may change reads the same before and after every instruction that is no helper call and
does not store to it (20_memory.md section 7; 20_memory.md section 4). That an unlisted region byte has one launch
value is log entry 8. -/
def Obligations.PrivateBytesChangeOnlyByOwnWrites : Prop :=
  ∀ (i : Instr) (s t : State) (a : Nat), helperOf i = none → exec i s = .next t → notStoredTo i s a →
    unshared s.cfg a = true → (insideStack s.cfg a 1 = true → s.mem.byte? a ≠ none) → t.seenByte a = s.seenByte a

/-- A byte of a region that starts at MAP_VAL(m) for some map m is shared, whatever mark the launch gives the region
(48_imm64.md section 3; 20_memory.md section 7). That the map decides and not the mark is log entry 23. -/
def Obligations.MapValuesAreShared : Prop :=
  ∀ (s : State) (m : Word) (g : Region) (a : Nat), s.cfg.mapVal.lookup m = some g.base → g ∈ s.cfg.regions →
    insideRegion g a 1 = true → insideStack s.cfg a 1 = false →
    unshared s.cfg a = false ∧ s.seenByte a = Config.sharedByte s.draws a (s.mem.byte? a)
end

