-- ==== Sys2Proof/Laws/Decode.lean ====
section
/-! SUPPORT. Slots, fields and register numbers: reading back what was written. -/

namespace Sys2Proof

/-! ### Bytes of a field -/

theorem nibbles_join (x y : BitVec 4) :
    (x ++ y : BitVec 8).extractLsb' 0 4 = y ∧ (x ++ y : BitVec 8).extractLsb' 4 4 = x := by
  revert x y
  decide

theorem bytes_join16 (x : BitVec 16) : (x.extractLsb' 8 8 ++ x.extractLsb' 0 8 : BitVec 16) = x := by
  apply BitVec.eq_of_getLsbD_eq
  intro i hi
  simp only [BitVec.getLsbD_append, BitVec.getLsbD_extractLsb']
  by_cases h : i < 8
  · simp [h]
  · have : i - 8 < 8 := by omega
    simp [h, this]
    congr 1
    omega

theorem bytes_join32 (x : BitVec 32) :
    (x.extractLsb' 24 8 ++ x.extractLsb' 16 8 ++ x.extractLsb' 8 8 ++ x.extractLsb' 0 8 : BitVec 32) = x := by
  apply BitVec.eq_of_getLsbD_eq
  intro i hi
  simp only [BitVec.getLsbD_append, BitVec.getLsbD_extractLsb']
  by_cases h : i < 8
  · simp [h]
  by_cases h1 : i - 8 < 8
  · simp [h, h1]
    congr 1
    omega
  by_cases h2 : i - 8 - 8 < 8
  · simp [h, h1, h2]
    congr 1
    omega
  · have : i - 8 - 8 - 8 < 8 := by omega
    simp [h, h1, h2, this]
    congr 1
    omega

/-- The fields of the slot that holds five numbers are those numbers, in both byte orders. -/
@[simp] theorem Fields.slot_fields (e : Endian) (f : Fields) : (f.slot e).fields e = f := by
  cases e <;> simp only [Fields.slot, Slot.fields, nibbles_join, bytes_join16, bytes_join32]

/-- The opcode is the first byte of a slot in both byte orders (`20_memory.md` R77). -/
@[simp] theorem Slot.fields_opcode (e : Endian) (s : Slot) : (s.fields e).opcode = s.b0 := by cases e <;> rfl

/-! ### Register numbers -/

@[simp] theorem Reg.ofNumber_number (r : Reg) : Reg.ofNumber r.number = some r := by cases r <;> rfl

@[simp] theorem readRegister_number (r : Reg) : readRegister r.number = .ok r := by
  rw [readRegister, Reg.ofNumber_number]

theorem writtenRegister_number {r : Reg} (h : r.writable = true) : writtenRegister r.number = .ok r := by
  rw [writtenRegister, Reg.ofNumber_number]
  simp [h]

/-- What a checked requirement says. -/
theorem require_ok {b : Bool} {why : Illegal} {u : Unit} (h : require b why = .ok u) : b = true := by
  unfold require at h
  split at h
  · assumption
  · cases h

end Sys2Proof
end

