-- ==== Sys2Proof/Laws/Memory.lean ====
section
/-! SUPPORT. Reading after writing, and that every memory operation keeps the canonical form. -/

namespace Sys2Proof.Machine

/-! ### One byte -/

theorem lookup_setCell_same (a : Nat) (v : Byte) (cs : List Host.Cell) : (setCell a v cs).lookup a = some v := by
  induction cs with
  | nil => simp [setCell]
  | cons c cs ih =>
    obtain ⟨b, w⟩ := c
    simp only [setCell]
    split
    · simp [List.lookup]
    · split
      · simp [List.lookup]
      · rename_i hne
        have : (a == b) = false := by simpa using hne
        simp [List.lookup, this, ih]

theorem lookup_setCell_other {a c : Nat} (v : Byte) (cs : List Host.Cell) (h : c ≠ a) :
    (setCell a v cs).lookup c = cs.lookup c := by
  have hca : (c == a) = false := by simpa using h
  induction cs with
  | nil => simp [setCell, List.lookup, hca]
  | cons d cs ih =>
    obtain ⟨b, w⟩ := d
    simp only [setCell]
    split
    · simp [List.lookup, hca]
    · split
      · rename_i hab
        subst hab
        simp [List.lookup, hca]
      · simp only [List.lookup, ih]

/-- Reading the byte just written. -/
theorem Memory.byte?_set_same (m : Memory) {a : Nat} (v : Byte) (h : a < 2 ^ 64) : (m.set a v).byte? a = some v := by
  unfold Memory.set Memory.byte?
  rw [if_pos h]
  exact lookup_setCell_same a v m.cells

/-- A write leaves every other byte alone. -/
theorem Memory.byte?_set_other (m : Memory) {a c : Nat} (v : Byte) (h : c ≠ a) : (m.set a v).byte? c = m.byte? c := by
  unfold Memory.set Memory.byte?
  split
  · exact lookup_setCell_other v m.cells h
  · rfl

/-! ### Several bytes -/

/-- A write of several bytes leaves every byte outside them alone. -/
theorem Memory.byte?_setAll_outside (m : Memory) (a c : Nat) (bs : List Byte) (h : c < a ∨ a + bs.length ≤ c) :
    (m.setAll a bs).byte? c = m.byte? c := by
  induction bs generalizing m a with
  | nil => rfl
  | cons b bs ih =>
    simp only [List.length_cons] at h
    rw [Memory.setAll, ih _ _ (by omega)]
    exact Memory.byte?_set_other m b (by omega)

/-- Reading one of several bytes just written. -/
theorem Memory.byte?_setAll_inside (m : Memory) (a k : Nat) (bs : List Byte) (hk : k < bs.length)
    (h : a + bs.length ≤ 2 ^ 64) : (m.setAll a bs).byte? (a + k) = bs[k]? := by
  induction bs generalizing m a k with
  | nil => simp at hk
  | cons b bs ih =>
    simp only [List.length_cons] at h hk
    cases k with
    | zero =>
      rw [Memory.setAll, Memory.byte?_setAll_outside _ _ _ _ (by omega)]
      simpa using Memory.byte?_set_same m b (by omega)
    | succ k =>
      rw [Memory.setAll, show a + (k + 1) = a + 1 + k by omega, ih _ _ _ (by omega) (by omega)]
      simp

/-- Of the listed bytes, `Memory.only` keeps exactly those at its addresses. -/
theorem Memory.byte?_only (m : Memory) (p : Nat → Bool) (a : Nat) :
    (m.only p).byte? a = if p a then m.byte? a else none := by
  obtain ⟨cs⟩ := m
  simp only [Memory.only, Memory.byte?]
  induction cs with
  | nil => simp
  | cons c cs ih =>
    obtain ⟨b, w⟩ := c
    by_cases hab : a = b
    · subst hab
      by_cases hp : p a = true
      · simp [hp]
      · simp only [hp, List.filter_cons]
        simpa [hp] using ih
    · have : (a == b) = false := by simpa using hab
      by_cases hp : p b = true
      · simp only [List.filter_cons, hp, if_true, List.lookup, this]
        exact ih
      · simp only [List.filter_cons, hp, List.lookup, this]
        exact ih

/-! ### The canonical form -/

theorem risingFrom_mono {lo lo' : Nat} {cs : List Host.Cell} (h : risingFrom lo cs = true) (hl : lo' ≤ lo) :
    risingFrom lo' cs = true := by
  cases cs with
  | nil => rfl
  | cons c cs =>
    simp only [risingFrom, Bool.and_eq_true, decide_eq_true_eq] at h ⊢
    exact ⟨⟨by omega, h.1.2⟩, h.2⟩

theorem risingFrom_setCell {lo a : Nat} (v : Byte) {cs : List Host.Cell} (h : risingFrom lo cs = true) (hl : lo ≤ a)
    (ha : a < 2 ^ 64) : risingFrom lo (setCell a v cs) = true := by
  induction cs generalizing lo with
  | nil =>
    simp only [setCell, risingFrom, Bool.and_eq_true, decide_eq_true_eq]
    exact ⟨⟨hl, ha⟩, trivial⟩
  | cons c cs ih =>
    obtain ⟨b, w⟩ := c
    simp only [risingFrom, Bool.and_eq_true, decide_eq_true_eq] at h
    obtain ⟨⟨h1, h2⟩, h3⟩ := h
    simp only [setCell]
    split
    · simp only [risingFrom, Bool.and_eq_true, decide_eq_true_eq]
      exact ⟨⟨hl, ha⟩, ⟨by omega, h2⟩, h3⟩
    · split
      · rename_i hab
        subst hab
        simp only [risingFrom, Bool.and_eq_true, decide_eq_true_eq]
        exact ⟨⟨hl, ha⟩, h3⟩
      · simp only [risingFrom, Bool.and_eq_true, decide_eq_true_eq]
        exact ⟨⟨h1, h2⟩, ih h3 (by omega)⟩

/-- A write of one byte keeps the canonical form. -/
theorem Memory.wf_set {m : Memory} (a : Nat) (v : Byte) (h : m.wf = true) : (m.set a v).wf = true := by
  unfold Memory.set
  split
  · exact risingFrom_setCell v h (Nat.zero_le _) ‹_›
  · exact h

/-- A write of several bytes keeps the canonical form. -/
theorem Memory.wf_setAll {m : Memory} (a : Nat) (bs : List Byte) (h : m.wf = true) : (m.setAll a bs).wf = true := by
  induction bs generalizing m a with
  | nil => exact h
  | cons b bs ih => exact ih _ (Memory.wf_set a b h)

/-- A helper function's writes keep the canonical form. -/
theorem Memory.wf_apply {m : Memory} (ws : List (Word × Byte)) (h : m.wf = true) : (m.apply ws).wf = true := by
  induction ws generalizing m with
  | nil => exact h
  | cons w ws ih => exact ih (Memory.wf_set w.1.toNat w.2 h)

theorem risingFrom_filter (p : Nat → Bool) {lo : Nat} {cs : List Host.Cell} (h : risingFrom lo cs = true) :
    risingFrom lo (cs.filter fun cell => p cell.1) = true := by
  induction cs generalizing lo with
  | nil => exact h
  | cons c cs ih =>
    obtain ⟨b, w⟩ := c
    simp only [risingFrom, Bool.and_eq_true, decide_eq_true_eq] at h
    obtain ⟨⟨h1, h2⟩, h3⟩ := h
    by_cases hp : p b = true
    · simp only [List.filter_cons, hp, if_true, risingFrom, Bool.and_eq_true, decide_eq_true_eq]
      exact ⟨⟨h1, h2⟩, ih h3⟩
    · simp only [List.filter_cons, hp]
      exact risingFrom_mono (ih h3) (by omega)

/-- Keeping some of the listed bytes keeps the canonical form. -/
theorem Memory.wf_only {m : Memory} (p : Nat → Bool) (h : m.wf = true) : (m.only p).wf = true :=
  risingFrom_filter p h

/-- The memory of a launch has the canonical form when the memory given does. -/
theorem launch_memory_wf (c : Config) (prog : List Slot) (args : List Word) {m : Memory} (h : m.wf = true) :
    (State.launch c prog args m).mem.wf = true :=
  Memory.wf_only _ h

/-- The memory of the reset state has the canonical form. -/
theorem reset_memory_wf : State.reset.mem.wf = true := rfl

/-! ### Lengths -/

@[simp] theorem splitBytes_length (e : Endian) (n : Nat) (v : Word) : (splitBytes e n v).length = n := by
  cases e <;> simp [splitBytes]

end Sys2Proof.Machine
end

