-- ==== Sys2Proof/Laws/State.lean ====
section
/-! SUPPORT. One lemma per field per update of the state, so that no proof unfolds a record update. -/

namespace Sys2Proof.Machine

/-! ### `State.raise` -/

@[simp] theorem State.raise_cfg (s : State) (k : FaultInfo) : (s.raise k).cfg = s.cfg := rfl
@[simp] theorem State.raise_prog (s : State) (k : FaultInfo) : (s.raise k).prog = s.prog := rfl
@[simp] theorem State.raise_regs (s : State) (k : FaultInfo) : (s.raise k).regs = s.regs := rfl
@[simp] theorem State.raise_pc (s : State) (k : FaultInfo) : (s.raise k).pc = s.pc := rfl
@[simp] theorem State.raise_frames (s : State) (k : FaultInfo) : (s.raise k).frames = s.frames := rfl
@[simp] theorem State.raise_status (s : State) (k : FaultInfo) : (s.raise k).status = .faulted k := rfl
@[simp] theorem State.raise_mem (s : State) (k : FaultInfo) : (s.raise k).mem = s.mem := rfl
@[simp] theorem State.raise_draws (s : State) (k : FaultInfo) : (s.raise k).draws = s.draws := rfl

/-! ### `State.writeReg` -/

@[simp] theorem State.writeReg_cfg (s : State) (r : Reg) (v : Word) : (s.writeReg r v).cfg = s.cfg := rfl
@[simp] theorem State.writeReg_prog (s : State) (r : Reg) (v : Word) : (s.writeReg r v).prog = s.prog := rfl
@[simp] theorem State.writeReg_regs (s : State) (r : Reg) (v : Word) :
    (s.writeReg r v).regs = s.regs.put r (some v) := rfl
@[simp] theorem State.writeReg_pc (s : State) (r : Reg) (v : Word) : (s.writeReg r v).pc = s.pc := rfl
@[simp] theorem State.writeReg_frames (s : State) (r : Reg) (v : Word) : (s.writeReg r v).frames = s.frames := rfl
@[simp] theorem State.writeReg_status (s : State) (r : Reg) (v : Word) : (s.writeReg r v).status = s.status := rfl
@[simp] theorem State.writeReg_mem (s : State) (r : Reg) (v : Word) : (s.writeReg r v).mem = s.mem := rfl
@[simp] theorem State.writeReg_draws (s : State) (r : Reg) (v : Word) : (s.writeReg r v).draws = s.draws := rfl

/-! ### `State.goto` -/

@[simp] theorem State.goto_cfg (s : State) (t : Int) : (s.goto t).cfg = s.cfg := rfl
@[simp] theorem State.goto_prog (s : State) (t : Int) : (s.goto t).prog = s.prog := rfl
@[simp] theorem State.goto_regs (s : State) (t : Int) : (s.goto t).regs = s.regs := rfl
@[simp] theorem State.goto_pc (s : State) (t : Int) : (s.goto t).pc = t := rfl
@[simp] theorem State.goto_frames (s : State) (t : Int) : (s.goto t).frames = s.frames := rfl
@[simp] theorem State.goto_status (s : State) (t : Int) : (s.goto t).status = s.status := rfl
@[simp] theorem State.goto_mem (s : State) (t : Int) : (s.goto t).mem = s.mem := rfl
@[simp] theorem State.goto_draws (s : State) (t : Int) : (s.goto t).draws = s.draws := rfl

/-! ### `State.advance` -/

@[simp] theorem State.advance_cfg (s : State) (n : Int) : (s.advance n).cfg = s.cfg := rfl
@[simp] theorem State.advance_prog (s : State) (n : Int) : (s.advance n).prog = s.prog := rfl
@[simp] theorem State.advance_regs (s : State) (n : Int) : (s.advance n).regs = s.regs := rfl
@[simp] theorem State.advance_pc (s : State) (n : Int) : (s.advance n).pc = s.pc + n := rfl
@[simp] theorem State.advance_frames (s : State) (n : Int) : (s.advance n).frames = s.frames := rfl
@[simp] theorem State.advance_status (s : State) (n : Int) : (s.advance n).status = s.status := rfl
@[simp] theorem State.advance_mem (s : State) (n : Int) : (s.advance n).mem = s.mem := rfl
@[simp] theorem State.advance_draws (s : State) (n : Int) : (s.advance n).draws = s.draws := rfl

/-! ### `State.drawn` -/

@[simp] theorem State.drawn_cfg (s : State) : (s.drawn).cfg = s.cfg := rfl
@[simp] theorem State.drawn_prog (s : State) : (s.drawn).prog = s.prog := rfl
@[simp] theorem State.drawn_regs (s : State) : (s.drawn).regs = s.regs := rfl
@[simp] theorem State.drawn_pc (s : State) : (s.drawn).pc = s.pc := rfl
@[simp] theorem State.drawn_frames (s : State) : (s.drawn).frames = s.frames := rfl
@[simp] theorem State.drawn_status (s : State) : (s.drawn).status = s.status := rfl
@[simp] theorem State.drawn_mem (s : State) : (s.drawn).mem = s.mem := rfl
@[simp] theorem State.drawn_draws (s : State) : (s.drawn).draws = s.draws + 1 := rfl

/-! ### `State.afterHelper` -/

@[simp] theorem State.afterHelper_cfg (s : State) (r : Word) (ws : List (Word × Byte)) :
    (s.afterHelper r ws).cfg = s.cfg := rfl
@[simp] theorem State.afterHelper_prog (s : State) (r : Word) (ws : List (Word × Byte)) :
    (s.afterHelper r ws).prog = s.prog := rfl
@[simp] theorem State.afterHelper_regs (s : State) (r : Word) (ws : List (Word × Byte)) :
    (s.afterHelper r ws).regs = (s.regs.put .r0 (some r)).loseArgs := rfl
@[simp] theorem State.afterHelper_pc (s : State) (r : Word) (ws : List (Word × Byte)) :
    (s.afterHelper r ws).pc = s.pc + 1 := rfl
@[simp] theorem State.afterHelper_frames (s : State) (r : Word) (ws : List (Word × Byte)) :
    (s.afterHelper r ws).frames = s.frames := rfl
@[simp] theorem State.afterHelper_status (s : State) (r : Word) (ws : List (Word × Byte)) :
    (s.afterHelper r ws).status = s.status := rfl
@[simp] theorem State.afterHelper_mem (s : State) (r : Word) (ws : List (Word × Byte)) :
    (s.afterHelper r ws).mem = s.mem.apply ws := rfl
@[simp] theorem State.afterHelper_draws (s : State) (r : Word) (ws : List (Word × Byte)) :
    (s.afterHelper r ws).draws = s.draws + 1 := rfl

/-! ### `State.enter` -/

@[simp] theorem State.enter_cfg (s : State) (d : Int) : (s.enter d).cfg = s.cfg := rfl
@[simp] theorem State.enter_prog (s : State) (d : Int) : (s.enter d).prog = s.prog := rfl
@[simp] theorem State.enter_regs (s : State) (d : Int) :
    (s.enter d).regs = { s.regs with r0 := none, r6 := none, r7 := none, r8 := none, r9 := none, r10 := s.regs.r10 - BitVec.ofNat 64 s.cfg.stackSize } := rfl
@[simp] theorem State.enter_pc (s : State) (d : Int) : (s.enter d).pc = jumpTarget s.pc d := rfl
@[simp] theorem State.enter_frames (s : State) (d : Int) : (s.enter d).frames = s.frameNow :: s.frames := rfl
@[simp] theorem State.enter_status (s : State) (d : Int) : (s.enter d).status = s.status := rfl
@[simp] theorem State.enter_mem (s : State) (d : Int) : (s.enter d).mem = s.mem := rfl
@[simp] theorem State.enter_draws (s : State) (d : Int) : (s.enter d).draws = s.draws := rfl

/-! ### `State.leave` -/

@[simp] theorem State.leave_cfg (s : State) (f : Frame) (rest : List Frame) : (s.leave f rest).cfg = s.cfg := rfl
@[simp] theorem State.leave_prog (s : State) (f : Frame) (rest : List Frame) : (s.leave f rest).prog = s.prog := rfl
@[simp] theorem State.leave_regs (s : State) (f : Frame) (rest : List Frame) :
    (s.leave f rest).regs = { s.regs.loseArgs with r6 := f.saved6, r7 := f.saved7, r8 := f.saved8, r9 := f.saved9, r10 := f.fp } := rfl
@[simp] theorem State.leave_pc (s : State) (f : Frame) (rest : List Frame) : (s.leave f rest).pc = f.ret := rfl
@[simp] theorem State.leave_frames (s : State) (f : Frame) (rest : List Frame) : (s.leave f rest).frames = rest := rfl
@[simp] theorem State.leave_status (s : State) (f : Frame) (rest : List Frame) :
    (s.leave f rest).status = s.status := rfl
@[simp] theorem State.leave_mem (s : State) (f : Frame) (rest : List Frame) : (s.leave f rest).mem = s.mem := rfl
@[simp] theorem State.leave_draws (s : State) (f : Frame) (rest : List Frame) :
    (s.leave f rest).draws = s.draws := rfl

/-! ### `State.finish` -/

@[simp] theorem State.finish_cfg (s : State) (v : Word) : (s.finish v).cfg = s.cfg := rfl
@[simp] theorem State.finish_prog (s : State) (v : Word) : (s.finish v).prog = s.prog := rfl
@[simp] theorem State.finish_regs (s : State) (v : Word) : (s.finish v).regs = s.regs := rfl
@[simp] theorem State.finish_pc (s : State) (v : Word) : (s.finish v).pc = s.pc := rfl
@[simp] theorem State.finish_frames (s : State) (v : Word) : (s.finish v).frames = s.frames := rfl
@[simp] theorem State.finish_status (s : State) (v : Word) : (s.finish v).status = .exited v := rfl
@[simp] theorem State.finish_mem (s : State) (v : Word) : (s.finish v).mem = s.mem := rfl
@[simp] theorem State.finish_draws (s : State) (v : Word) : (s.finish v).draws = s.draws := rfl

/-! ### `State.launch` -/

@[simp] theorem State.launch_cfg (c : Config) (p : List Slot) (args : List Word) (m : Memory) :
    (State.launch c p args m).cfg = c := rfl
@[simp] theorem State.launch_prog (c : Config) (p : List Slot) (args : List Word) (m : Memory) :
    (State.launch c p args m).prog = p := rfl
@[simp] theorem State.launch_pc (c : Config) (p : List Slot) (args : List Word) (m : Memory) :
    (State.launch c p args m).pc = 0 := rfl
@[simp] theorem State.launch_frames (c : Config) (p : List Slot) (args : List Word) (m : Memory) :
    (State.launch c p args m).frames = [] := rfl
@[simp] theorem State.launch_status (c : Config) (p : List Slot) (args : List Word) (m : Memory) :
    (State.launch c p args m).status = .running := rfl
@[simp] theorem State.launch_mem (c : Config) (p : List Slot) (args : List Word) (m : Memory) :
    (State.launch c p args m).mem = m.only (launchByteAt c) := rfl
@[simp] theorem State.launch_draws (c : Config) (p : List Slot) (args : List Word) (m : Memory) :
    (State.launch c p args m).draws = 0 := rfl
@[simp] theorem State.launch_r10 (c : Config) (p : List Slot) (args : List Word) (m : Memory) :
    (State.launch c p args m).regs.r10 = c.stackTop := rfl

/-! ### Registers -/

@[simp] theorem RegFile.put_r10 (f : RegFile) (v : Option Word) : f.put .r10 v = f := rfl

@[simp] theorem RegFile.put_frame (f : RegFile) (r : Reg) (v : Option Word) : (f.put r v).r10 = f.r10 := by
  cases r <;> rfl

theorem RegFile.get_put_same (f : RegFile) {r : Reg} (v : Option Word) (h : r ≠ .r10) : (f.put r v).get r = v := by
  cases r <;> first | rfl | exact absurd rfl h

theorem RegFile.get_put_other (f : RegFile) {r q : Reg} (v : Option Word) (h : q ≠ r) :
    (f.put r v).get q = f.get q := by
  cases r <;> cases q <;> first | rfl | exact absurd rfl h

@[simp] theorem RegFile.loseArgs_r0 (f : RegFile) : f.loseArgs.r0 = f.r0 := rfl
@[simp] theorem RegFile.loseArgs_r1 (f : RegFile) : f.loseArgs.r1 = none := rfl
@[simp] theorem RegFile.loseArgs_r2 (f : RegFile) : f.loseArgs.r2 = none := rfl
@[simp] theorem RegFile.loseArgs_r3 (f : RegFile) : f.loseArgs.r3 = none := rfl
@[simp] theorem RegFile.loseArgs_r4 (f : RegFile) : f.loseArgs.r4 = none := rfl
@[simp] theorem RegFile.loseArgs_r5 (f : RegFile) : f.loseArgs.r5 = none := rfl
@[simp] theorem RegFile.loseArgs_r6 (f : RegFile) : f.loseArgs.r6 = f.r6 := rfl
@[simp] theorem RegFile.loseArgs_r7 (f : RegFile) : f.loseArgs.r7 = f.r7 := rfl
@[simp] theorem RegFile.loseArgs_r8 (f : RegFile) : f.loseArgs.r8 = f.r8 := rfl
@[simp] theorem RegFile.loseArgs_r9 (f : RegFile) : f.loseArgs.r9 = f.r9 := rfl
@[simp] theorem RegFile.loseArgs_r10 (f : RegFile) : f.loseArgs.r10 = f.r10 := rfl

end Sys2Proof.Machine
end

