-- ==== Sys2Proof/Laws/Ops.lean ====
section
/-! SUPPORT. For each shared operation, one lemma that says once everything it can answer. -/

namespace Sys2Proof.Machine

/-! ### Outcomes -/

/-- An attempt always answers a next state: the rule's own, or the state before it with the fault taken. -/
theorem State.attempt_next {s t : State} {r : Except FaultInfo State} (h : s.attempt r = .next t) :
    r = .ok t ∨ ∃ k, r = .error k ∧ t = s.raise k := by
  cases r with
  | ok u => exact .inl (by simpa [State.attempt] using h)
  | error k => exact .inr ⟨k, rfl, by simpa [State.attempt, eq_comm] using h⟩

@[simp] theorem State.attempt_ok (s t : State) : s.attempt (.ok t) = .next t := rfl
@[simp] theorem State.attempt_error (s : State) (k : FaultInfo) : s.attempt (.error k) = .next (s.raise k) := rfl

/-- What a sequence of two attempts answers. -/
theorem bind_ok {ε α β : Type} {x : Except ε α} {f : α → Except ε β} {b : β} (h : (x >>= f) = .ok b) :
    ∃ a, x = .ok a ∧ f a = .ok b := by
  cases x with
  | ok a => exact ⟨a, rfl, h⟩
  | error e => exact nomatch h

/-! ### Registers -/

theorem State.readReg_ok {s : State} {r : Reg} {v : Word} (h : s.readReg r = .ok v) : s.regs.get r = some v := by
  unfold State.readReg at h
  split at h
  · rename_i w hw
    rw [hw]
    exact congrArg some (Except.ok.inj h)
  · exact nomatch h

theorem State.readReg_some {s : State} {r : Reg} {v : Word} (h : s.regs.get r = some v) : s.readReg r = .ok v := by
  simp [State.readReg, h]

theorem State.readReg_none {s : State} {r : Reg} (h : s.regs.get r = none) :
    s.readReg r = .error (.unwrittenRegister s.pc r) := by
  simp [State.readReg, h]

/-- R10 is always readable (`10_state.md` R32). -/
@[simp] theorem State.readReg_r10 (s : State) : s.readReg .r10 = .ok s.regs.r10 := rfl

theorem State.move_ok {s t : State} {src dst : Reg} {f : Word → Word} (h : s.move src dst f = .ok t) :
    ∃ v, s.regs.get src = some v ∧ t = (s.writeReg dst (f v)).advance 1 := by
  obtain ⟨v, hv, ht⟩ := bind_ok h
  exact ⟨v, State.readReg_ok hv, (Except.ok.inj ht).symm⟩

/-! ### Admission and memory events -/

theorem State.checkAccess_ok {s : State} {a : Word} {n : MemSize} {k : AccessKind} {u : Unit} (h : s.checkAccess a n k = .ok u) :
    denial s.cfg a n k = none := by
  unfold State.checkAccess at h
  split at h
  · assumption
  · exact nomatch h

theorem State.checkAccess_none {s : State} {a : Word} {n : MemSize} {k : AccessKind} (h : denial s.cfg a n k = none) :
    s.checkAccess a n k = .ok () := by
  simp [State.checkAccess, h]

/-- An admitted access does not wrap (`20_memory.md` R71 (a)). -/
theorem denial_none_fits {c : Config} {a : Word} {n : MemSize} {k : AccessKind} (h : denial c a n k = none) :
    a.toNat + sizeBytes n ≤ 2 ^ 64 := by
  unfold denial at h
  split at h
  · exact nomatch h
  · omega

theorem State.memRead_ok {s : State} {a : Word} {n : MemSize} {v : Word} (h : s.memRead a n = .ok v) :
    denial s.cfg a n .read = none ∧ v = s.valueAt a n := by
  obtain ⟨_, hu, hv⟩ := bind_ok h
  exact ⟨State.checkAccess_ok hu, (Except.ok.inj hv).symm⟩

theorem State.memWrite_ok {s t : State} {a : Word} {n : MemSize} {v : Word} (h : s.memWrite a n v = .ok t) :
    denial s.cfg a n .write = none ∧ t = { s with mem := s.stored a n v } := by
  obtain ⟨_, hu, hv⟩ := bind_ok h
  exact ⟨State.checkAccess_ok hu, (Except.ok.inj hv).symm⟩

theorem State.atomicEvent_ok {s t : State} {a old : Word} {n : MemSize} {f : Word → Option Word}
    (h : s.atomicEvent a n f = .ok (old, t)) :
    denial s.cfg a n .atomic = none ∧ old = s.valueAt a n ∧
      ((∃ new, f old = some new ∧ t = ({ s with mem := s.stored a n new } : State).drawn) ∨
        (f old = none ∧ t = s.drawn)) := by
  obtain ⟨_, hu, hv⟩ := bind_ok h
  refine ⟨State.checkAccess_ok hu, ?_⟩
  revert hv
  cases hf : f (s.valueAt a n) with
  | some new =>
    simp only [hf]
    intro hv
    obtain ⟨rfl, rfl⟩ := Prod.mk.inj (Except.ok.inj hv)
    exact ⟨rfl, .inl ⟨new, hf, rfl⟩⟩
  | none =>
    simp only [hf]
    intro hv
    obtain ⟨rfl, rfl⟩ := Prod.mk.inj (Except.ok.inj hv)
    exact ⟨rfl, .inr ⟨hf, rfl⟩⟩

/-- A store leaves every byte outside its own alone. -/
theorem State.stored_outside (s : State) (a : Word) (n : MemSize) (v : Word) (c : Nat)
    (h : c < a.toNat ∨ a.toNat + sizeBytes n ≤ c) : (s.stored a n v).byte? c = s.mem.byte? c :=
  Memory.byte?_setAll_outside _ _ _ _ (by simpa using h)

/-- The bytes a store leaves at its own addresses. -/
theorem State.stored_inside (s : State) (a : Word) (n : MemSize) (v : Word) (k : Nat) (hk : k < sizeBytes n)
    (h : a.toNat + sizeBytes n ≤ 2 ^ 64) :
    (s.stored a n v).byte? (a.toNat + k) = (splitBytes s.cfg.endian (sizeBytes n) v)[k]? :=
  Memory.byte?_setAll_inside _ _ _ _ (by simpa using hk) (by simpa using h)

theorem State.stored_wf {s : State} (a : Word) (n : MemSize) (v : Word) (h : s.mem.wf = true) :
    (s.stored a n v).wf = true :=
  Memory.wf_setAll _ _ h

/-- A shared byte is an input of the step (`20_memory.md` R90). -/
theorem State.seenByte_shared {s : State} {a : Nat} (hp : sharedByteAt s.cfg a = true) :
    s.seenByte a = Config.sharedByte s.draws a (s.mem.byte? a) := by
  simp [State.seenByte, hp]

/-- A private byte that this execution has written, or the launch lists, is read as that (`20_memory.md` R91 (a)). -/
theorem State.seenByte_own {s : State} {a : Nat} {b : Byte} (hp : sharedByteAt s.cfg a = false)
    (hb : s.mem.byte? a = some b) : s.seenByte a = b := by
  simp [State.seenByte, hp, hb]

/-- The stack is private (`20_memory.md` R90). -/
theorem sharedByteAt_stack {c : Config} {a : Nat} (hs : stackByteAt c a = true) : sharedByteAt c a = false := by
  simp [sharedByteAt, hs]

/-- A stack byte without a value is read as any value (`20_memory.md` R81). -/
theorem State.seenByte_stack {s : State} {a : Nat} (hs : stackByteAt s.cfg a = true) (hb : s.mem.byte? a = none) :
    s.seenByte a = Config.unspecifiedByte s.draws a := by
  simp [State.seenByte, sharedByteAt_stack hs, hs, hb]

/-- A byte of a private region without a listed value is read as its launch value (`20_memory.md` R81, R91 (a)). -/
theorem State.seenByte_launch {s : State} {a : Nat} (hp : sharedByteAt s.cfg a = false)
    (hs : stackByteAt s.cfg a = false) (hb : s.mem.byte? a = none) : s.seenByte a = Config.launchByte a := by
  simp [State.seenByte, hp, hs, hb]

/-- Outside the stack, what a read sees of a private byte depends on the parameters and the byte listed alone, and not on
the number of the read (`20_memory.md` R90). -/
theorem State.seenByte_congr {s t : State} {a : Nat} (hc : t.cfg = s.cfg) (hp : sharedByteAt s.cfg a = false)
    (hs : stackByteAt s.cfg a = false) (hb : t.mem.byte? a = s.mem.byte? a) : t.seenByte a = s.seenByte a := by
  simp [State.seenByte, hc, hp, hs, hb]

/-! ### Calls and returns -/

/-- The answer of a helper is that of its first case that applies (`45_call_exit.md` R395). -/
theorem State.answerOf_known {s : State} {tb : HelperTable} {imm : BitVec 32} {f : Helper} {args : List Word}
    {k : HelperCase} (h : f.known.find? (s.caseApplies args) = some k) : s.answerOf tb imm f args = k.answer := by
  simp [State.answerOf, h]

theorem State.callHelper_ok {s t : State} {tb : HelperTable} {imm : BitVec 32} (h : s.callHelper tb imm = .ok t) :
    ∃ f args r ws, (helperTable s.cfg tb).lookup imm = some f ∧ s.readArgs f.arity.val = .ok args ∧
      s.answerOf tb imm f args = .result r ws ∧ t = s.afterHelper r ws := by
  unfold State.callHelper at h
  split at h
  · exact nomatch h
  · rename_i f hf
    obtain ⟨args, ha, hr⟩ := bind_ok h
    split at hr
    · exact nomatch hr
    · rename_i r ws he
      exact ⟨f, args, r, ws, hf, ha, he, (Except.ok.inj hr).symm⟩

theorem State.callLocal_ok {s t : State} {d : Int} (h : s.callLocal d = .ok t) :
    s.frames.length + 1 < s.cfg.maxCallDepth ∧ t = s.enter d := by
  unfold State.callLocal at h
  split at h
  · exact nomatch h
  · exact ⟨by omega, (Except.ok.inj h).symm⟩

end Sys2Proof.Machine
end

