-- ==== Sys2Proof/Laws/Families.lean ====
section
/-! SUPPORT. For each family's shared rule, one lemma that says once everything it can answer. -/

namespace Sys2Proof.Machine

/-! ### Arithmetic -/

theorem State.alu64Imm_ok {s t : State} {dst : Reg} {imm : BitVec 32} {op : Word → Word → Word}
    (h : s.alu64Imm dst imm op = .ok t) :
    ∃ d, s.regs.get dst = some d ∧ t = (s.writeReg dst (op d (sextImm imm))).advance 1 := by
  obtain ⟨d, hd, ht⟩ := bind_ok h
  exact ⟨d, State.readReg_ok hd, (Except.ok.inj ht).symm⟩

theorem State.alu64Reg_ok {s t : State} {dst src : Reg} {op : Word → Word → Word} (h : s.alu64Reg dst src op = .ok t) :
    ∃ d v, s.regs.get dst = some d ∧ s.regs.get src = some v ∧ t = (s.writeReg dst (op d v)).advance 1 := by
  obtain ⟨d, hd, h⟩ := bind_ok h
  obtain ⟨v, hv, ht⟩ := bind_ok h
  exact ⟨d, v, State.readReg_ok hd, State.readReg_ok hv, (Except.ok.inj ht).symm⟩

theorem State.negate64_ok {s t : State} {dst : Reg} (h : s.negate64 dst = .ok t) :
    ∃ d, s.regs.get dst = some d ∧ t = (s.writeReg dst (negOp d)).advance 1 := by
  obtain ⟨d, hd, ht⟩ := bind_ok h
  exact ⟨d, State.readReg_ok hd, (Except.ok.inj ht).symm⟩

theorem State.alu32Imm_ok {s t : State} {dst : Reg} {imm : BitVec 32} {op : BitVec 32 → BitVec 32 → BitVec 32}
    (h : s.alu32Imm dst imm op = .ok t) :
    ∃ d, s.regs.get dst = some d ∧ t = (s.writeReg dst (zext32 (op (low32 d) imm))).advance 1 := by
  obtain ⟨d, hd, ht⟩ := bind_ok h
  exact ⟨d, State.readReg_ok hd, (Except.ok.inj ht).symm⟩

theorem State.alu32Reg_ok {s t : State} {dst src : Reg} {op : BitVec 32 → BitVec 32 → BitVec 32}
    (h : s.alu32Reg dst src op = .ok t) :
    ∃ d v, s.regs.get dst = some d ∧ s.regs.get src = some v ∧
      t = (s.writeReg dst (zext32 (op (low32 d) (low32 v)))).advance 1 := by
  obtain ⟨d, hd, h⟩ := bind_ok h
  obtain ⟨v, hv, ht⟩ := bind_ok h
  exact ⟨d, v, State.readReg_ok hd, State.readReg_ok hv, (Except.ok.inj ht).symm⟩

theorem State.negate32_ok {s t : State} {dst : Reg} (h : s.negate32 dst = .ok t) :
    ∃ d, s.regs.get dst = some d ∧ t = (s.writeReg dst (zext32 (negOp (low32 d)))).advance 1 := by
  obtain ⟨d, hd, ht⟩ := bind_ok h
  exact ⟨d, State.readReg_ok hd, (Except.ok.inj ht).symm⟩

/-! ### Byte swaps -/

theorem State.swap16_ok {s t : State} {dst : Reg} {f : BitVec 16 → BitVec 16} (h : s.swap16 dst f = .ok t) :
    ∃ d, s.regs.get dst = some d ∧ t = (s.writeReg dst ((f (d.setWidth 16)).setWidth 64)).advance 1 := by
  obtain ⟨d, hd, ht⟩ := bind_ok h
  exact ⟨d, State.readReg_ok hd, (Except.ok.inj ht).symm⟩

theorem State.swap32_ok {s t : State} {dst : Reg} {f : BitVec 32 → BitVec 32} (h : s.swap32 dst f = .ok t) :
    ∃ d, s.regs.get dst = some d ∧ t = (s.writeReg dst ((f (d.setWidth 32)).setWidth 64)).advance 1 := by
  obtain ⟨d, hd, ht⟩ := bind_ok h
  exact ⟨d, State.readReg_ok hd, (Except.ok.inj ht).symm⟩

theorem State.swap64_ok {s t : State} {dst : Reg} {f : Word → Word} (h : s.swap64 dst f = .ok t) :
    ∃ d, s.regs.get dst = some d ∧ t = (s.writeReg dst ((f (d.setWidth 64)).setWidth 64)).advance 1 := by
  obtain ⟨d, hd, ht⟩ := bind_ok h
  exact ⟨d, State.readReg_ok hd, (Except.ok.inj ht).symm⟩

/-! ### Jumps -/

theorem State.jump64Imm_ok {s t : State} {dst : Reg} {off : BitVec 16} {imm : BitVec 32} {c : Word → Word → Bool}
    (h : s.jump64Imm dst off imm c = .ok t) : ∃ a, s.regs.get dst = some a ∧ t = s.branch off (c a (sextImm imm)) := by
  obtain ⟨a, ha, ht⟩ := bind_ok h
  exact ⟨a, State.readReg_ok ha, (Except.ok.inj ht).symm⟩

theorem State.jump64Reg_ok {s t : State} {dst src : Reg} {off : BitVec 16} {c : Word → Word → Bool}
    (h : s.jump64Reg dst src off c = .ok t) :
    ∃ a b, s.regs.get dst = some a ∧ s.regs.get src = some b ∧ t = s.branch off (c a b) := by
  obtain ⟨a, ha, h⟩ := bind_ok h
  obtain ⟨b, hb, ht⟩ := bind_ok h
  exact ⟨a, b, State.readReg_ok ha, State.readReg_ok hb, (Except.ok.inj ht).symm⟩

theorem State.jump32Imm_ok {s t : State} {dst : Reg} {off : BitVec 16} {imm : BitVec 32}
    {c : BitVec 32 → BitVec 32 → Bool} (h : s.jump32Imm dst off imm c = .ok t) :
    ∃ a, s.regs.get dst = some a ∧ t = s.branch off (c (low32 a) imm) := by
  obtain ⟨a, ha, ht⟩ := bind_ok h
  exact ⟨a, State.readReg_ok ha, (Except.ok.inj ht).symm⟩

theorem State.jump32Reg_ok {s t : State} {dst src : Reg} {off : BitVec 16} {c : BitVec 32 → BitVec 32 → Bool}
    (h : s.jump32Reg dst src off c = .ok t) :
    ∃ a b, s.regs.get dst = some a ∧ s.regs.get src = some b ∧ t = s.branch off (c (low32 a) (low32 b)) := by
  obtain ⟨a, ha, h⟩ := bind_ok h
  obtain ⟨b, hb, ht⟩ := bind_ok h
  exact ⟨a, b, State.readReg_ok ha, State.readReg_ok hb, (Except.ok.inj ht).symm⟩

/-! ### Exit -/

theorem State.leaveOrFinish_ok {s t : State} (h : s.leaveOrFinish = .ok t) :
    ∃ v, s.regs.r0 = some v ∧
      ((s.frames = [] ∧ t = s.finish v) ∨ ∃ f rest, s.frames = f :: rest ∧ t = s.leave f rest) := by
  obtain ⟨v, hv, h⟩ := bind_ok h
  refine ⟨v, State.readReg_ok hv, ?_⟩
  split at h
  · exact .inl ⟨‹_›, (Except.ok.inj h).symm⟩
  · exact .inr ⟨_, _, ‹_›, (Except.ok.inj h).symm⟩

/-! ### Loads and stores -/

theorem State.load_ok {s t : State} {dst src : Reg} {off : BitVec 16} {n : MemSize} {f : Word → Word}
    (h : s.load dst src off n f = .ok t) :
    ∃ base, s.regs.get src = some base ∧ denial s.cfg (effectiveAddress base off) n .read = none ∧
      t = ((s.writeReg dst (f (s.valueAt (effectiveAddress base off) n))).advance 1).drawn := by
  obtain ⟨base, hb, h⟩ := bind_ok h
  obtain ⟨v, hv, ht⟩ := bind_ok h
  obtain ⟨hd, rfl⟩ := State.memRead_ok hv
  exact ⟨base, State.readReg_ok hb, hd, (Except.ok.inj ht).symm⟩

theorem State.storeImm_ok {s t : State} {dst : Reg} {off : BitVec 16} {imm : BitVec 32} {n : MemSize}
    (h : s.storeImm dst off imm n = .ok t) :
    ∃ base, s.regs.get dst = some base ∧ denial s.cfg (effectiveAddress base off) n .write = none ∧
      t = ({ s with mem := s.stored (effectiveAddress base off) n (sextImm imm) } : State).advance 1 := by
  obtain ⟨base, hb, h⟩ := bind_ok h
  obtain ⟨u, hu, ht⟩ := bind_ok h
  obtain ⟨hd, rfl⟩ := State.memWrite_ok hu
  exact ⟨base, State.readReg_ok hb, hd, (Except.ok.inj ht).symm⟩

theorem State.storeReg_ok {s t : State} {dst src : Reg} {off : BitVec 16} {n : MemSize}
    (h : s.storeReg dst src off n = .ok t) :
    ∃ base v, s.regs.get dst = some base ∧ s.regs.get src = some v ∧
      denial s.cfg (effectiveAddress base off) n .write = none ∧
      t = ({ s with mem := s.stored (effectiveAddress base off) n v } : State).advance 1 := by
  obtain ⟨base, hb, h⟩ := bind_ok h
  obtain ⟨v, hv, h⟩ := bind_ok h
  obtain ⟨u, hu, ht⟩ := bind_ok h
  obtain ⟨hd, rfl⟩ := State.memWrite_ok hu
  exact ⟨base, v, State.readReg_ok hb, State.readReg_ok hv, hd, (Except.ok.inj ht).symm⟩

/-! ### Atomic operations -/

theorem State.atomicKeep32_ok {s t : State} {dst src : Reg} {off : BitVec 16} {op : BitVec 32 → BitVec 32 → BitVec 32}
    (h : s.atomicKeep32 dst src off op = .ok t) :
    ∃ base v, s.regs.get dst = some base ∧ s.regs.get src = some v ∧
      denial s.cfg (effectiveAddress base off) .w .atomic = none ∧
      t = ({ s with mem := s.stored (effectiveAddress base off) .w
                      (zext32 (op (low32 (s.valueAt (effectiveAddress base off) .w)) (low32 v))) } : State).drawn.advance 1 := by
  obtain ⟨base, hb, h⟩ := bind_ok h
  obtain ⟨v, hv, h⟩ := bind_ok h
  obtain ⟨⟨old, u⟩, hu, ht⟩ := bind_ok h
  obtain ⟨hd, rfl, ⟨new, hn, rfl⟩ | ⟨hn, -⟩⟩ := State.atomicEvent_ok hu
  · obtain rfl := Option.some.inj hn
    exact ⟨base, v, State.readReg_ok hb, State.readReg_ok hv, hd, (Except.ok.inj ht).symm⟩
  · exact nomatch hn

theorem State.atomicFetch32_ok {s t : State} {dst src : Reg} {off : BitVec 16} {op : BitVec 32 → BitVec 32 → BitVec 32}
    (h : s.atomicFetch32 dst src off op = .ok t) :
    ∃ base v, s.regs.get dst = some base ∧ s.regs.get src = some v ∧
      denial s.cfg (effectiveAddress base off) .w .atomic = none ∧
      t = (({ s with mem := s.stored (effectiveAddress base off) .w
                      (zext32 (op (low32 (s.valueAt (effectiveAddress base off) .w)) (low32 v))) } : State).drawn.writeReg src (zext32 (low32 (s.valueAt (effectiveAddress base off) .w)))).advance 1 := by
  obtain ⟨base, hb, h⟩ := bind_ok h
  obtain ⟨v, hv, h⟩ := bind_ok h
  obtain ⟨⟨old, u⟩, hu, ht⟩ := bind_ok h
  obtain ⟨hd, rfl, ⟨new, hn, rfl⟩ | ⟨hn, -⟩⟩ := State.atomicEvent_ok hu
  · obtain rfl := Option.some.inj hn
    exact ⟨base, v, State.readReg_ok hb, State.readReg_ok hv, hd, (Except.ok.inj ht).symm⟩
  · exact nomatch hn

theorem State.atomicCompare32_ok {s t : State} {dst src : Reg} {off : BitVec 16}
    (h : s.atomicCompare32 dst src off = .ok t) :
    ∃ base v e, s.regs.get dst = some base ∧ s.regs.get src = some v ∧ s.regs.r0 = some e ∧
      denial s.cfg (effectiveAddress base off) .w .atomic = none ∧
      ((low32 (s.valueAt (effectiveAddress base off) .w) = low32 e ∧
          t = (({ s with mem := s.stored (effectiveAddress base off) .w (zext32 (low32 v)) } : State).drawn.writeReg .r0
                (zext32 (low32 (s.valueAt (effectiveAddress base off) .w)))).advance 1) ∨
        (¬ low32 (s.valueAt (effectiveAddress base off) .w) = low32 e ∧
          t = (s.drawn.writeReg .r0 (zext32 (low32 (s.valueAt (effectiveAddress base off) .w)))).advance 1)) := by
  obtain ⟨base, hb, h⟩ := bind_ok h
  obtain ⟨v, hv, h⟩ := bind_ok h
  obtain ⟨e, he, h⟩ := bind_ok h
  obtain ⟨⟨old, u⟩, hu, ht⟩ := bind_ok h
  refine ⟨base, v, e, State.readReg_ok hb, State.readReg_ok hv, State.readReg_ok he, ?_⟩
  obtain ⟨hd, rfl, ⟨new, hn, rfl⟩ | ⟨hn, rfl⟩⟩ := State.atomicEvent_ok hu
  · split at hn
    · obtain rfl := Option.some.inj hn
      exact ⟨hd, .inl ⟨‹_›, (Except.ok.inj ht).symm⟩⟩
    · exact nomatch hn
  · split at hn
    · exact nomatch hn
    · exact ⟨hd, .inr ⟨‹_›, (Except.ok.inj ht).symm⟩⟩

theorem State.atomicKeep64_ok {s t : State} {dst src : Reg} {off : BitVec 16} {op : Word → Word → Word}
    (h : s.atomicKeep64 dst src off op = .ok t) :
    ∃ base v, s.regs.get dst = some base ∧ s.regs.get src = some v ∧
      denial s.cfg (effectiveAddress base off) .dw .atomic = none ∧
      t = ({ s with mem := s.stored (effectiveAddress base off) .dw
                      (op (s.valueAt (effectiveAddress base off) .dw) v) } : State).drawn.advance 1 := by
  obtain ⟨base, hb, h⟩ := bind_ok h
  obtain ⟨v, hv, h⟩ := bind_ok h
  obtain ⟨⟨old, u⟩, hu, ht⟩ := bind_ok h
  obtain ⟨hd, rfl, ⟨new, hn, rfl⟩ | ⟨hn, -⟩⟩ := State.atomicEvent_ok hu
  · obtain rfl := Option.some.inj hn
    exact ⟨base, v, State.readReg_ok hb, State.readReg_ok hv, hd, (Except.ok.inj ht).symm⟩
  · exact nomatch hn

theorem State.atomicFetch64_ok {s t : State} {dst src : Reg} {off : BitVec 16} {op : Word → Word → Word}
    (h : s.atomicFetch64 dst src off op = .ok t) :
    ∃ base v, s.regs.get dst = some base ∧ s.regs.get src = some v ∧
      denial s.cfg (effectiveAddress base off) .dw .atomic = none ∧
      t = (({ s with mem := s.stored (effectiveAddress base off) .dw
                      (op (s.valueAt (effectiveAddress base off) .dw) v) } : State).drawn.writeReg src (s.valueAt (effectiveAddress base off) .dw)).advance 1 := by
  obtain ⟨base, hb, h⟩ := bind_ok h
  obtain ⟨v, hv, h⟩ := bind_ok h
  obtain ⟨⟨old, u⟩, hu, ht⟩ := bind_ok h
  obtain ⟨hd, rfl, ⟨new, hn, rfl⟩ | ⟨hn, -⟩⟩ := State.atomicEvent_ok hu
  · obtain rfl := Option.some.inj hn
    exact ⟨base, v, State.readReg_ok hb, State.readReg_ok hv, hd, (Except.ok.inj ht).symm⟩
  · exact nomatch hn

theorem State.atomicCompare64_ok {s t : State} {dst src : Reg} {off : BitVec 16}
    (h : s.atomicCompare64 dst src off = .ok t) :
    ∃ base v e, s.regs.get dst = some base ∧ s.regs.get src = some v ∧ s.regs.r0 = some e ∧
      denial s.cfg (effectiveAddress base off) .dw .atomic = none ∧
      ((s.valueAt (effectiveAddress base off) .dw = e ∧
          t = (({ s with mem := s.stored (effectiveAddress base off) .dw v } : State).drawn.writeReg .r0
                (s.valueAt (effectiveAddress base off) .dw)).advance 1) ∨
        (¬ s.valueAt (effectiveAddress base off) .dw = e ∧
          t = (s.drawn.writeReg .r0 (s.valueAt (effectiveAddress base off) .dw)).advance 1)) := by
  obtain ⟨base, hb, h⟩ := bind_ok h
  obtain ⟨v, hv, h⟩ := bind_ok h
  obtain ⟨e, he, h⟩ := bind_ok h
  obtain ⟨⟨old, u⟩, hu, ht⟩ := bind_ok h
  refine ⟨base, v, e, State.readReg_ok hb, State.readReg_ok hv, State.readReg_ok he, ?_⟩
  obtain ⟨hd, rfl, ⟨new, hn, rfl⟩ | ⟨hn, rfl⟩⟩ := State.atomicEvent_ok hu
  · split at hn
    · obtain rfl := Option.some.inj hn
      exact ⟨hd, .inl ⟨‹_›, (Except.ok.inj ht).symm⟩⟩
    · exact nomatch hn
  · split at hn
    · exact nomatch hn
    · exact ⟨hd, .inr ⟨‹_›, (Except.ok.inj ht).symm⟩⟩

/-! ### Wide loads -/

theorem State.resolve_ok {s : State} {k : RefSubtype} {arg : BitVec 32} {v : Option Word} {a : Word}
    (h : s.resolve k arg v = .ok a) : v = some a := by
  unfold State.resolve at h
  split at h
  · exact congrArg some (Except.ok.inj h)
  · exact nomatch h

theorem State.mapValue_ok {s : State} {k : RefSubtype} {arg next : BitVec 32} {map : Option Word} {a : Word}
    (h : s.mapValue k arg map next = .ok a) :
    ∃ m first, map = some m ∧ s.cfg.mapVal.lookup m = some first ∧ a = first + zext32 next := by
  obtain ⟨m, hm, h⟩ := bind_ok h
  obtain ⟨first, hf, ha⟩ := bind_ok h
  exact ⟨m, first, State.resolve_ok hm, State.resolve_ok hf, (Except.ok.inj ha).symm⟩

theorem State.loadRef_ok {s t : State} {dst : Reg} {v : Except FaultInfo Word} (h : s.loadRef dst v = .ok t) :
    ∃ a, v = .ok a ∧ t = s.loadWide dst a := by
  obtain ⟨a, ha, ht⟩ := bind_ok h
  exact ⟨a, ha, (Except.ok.inj ht).symm⟩

end Sys2Proof.Machine
end

