-- ==== Sys2Proof/Laws/Faults.lean ====
section
/-! SUPPORT. For each shared operation and each family's shared rule, one lemma that says once which fault it can raise. -/

namespace Sys2Proof.Machine

/-! ### Outcomes -/

/-- Where a sequence of two attempts fails. -/
theorem bind_error {ε α β : Type} {x : Except ε α} {f : α → Except ε β} {k : ε} (h : (x >>= f) = .error k) :
    x = .error k ∨ ∃ a, x = .ok a ∧ f a = .error k := by
  cases x with
  | ok a => exact .inr ⟨a, rfl, h⟩
  | error e => exact .inl (by cases h; rfl)

/-! ### Registers -/

/-- The fault of reading one register (`60_exceptions.md` R515). -/
def Unwritten (s : State) (r : Reg) (k : FaultInfo) : Prop := s.regs.get r = none ∧ k = .unwrittenRegister s.pc r

/-- The fault of reading two registers in order. -/
def Unwritten2 (s : State) (r q : Reg) (k : FaultInfo) : Prop :=
  Unwritten s r k ∨ ∃ v, s.regs.get r = some v ∧ Unwritten s q k

/-- The fault of reading three registers in order. -/
def Unwritten3 (s : State) (r q p : Reg) (k : FaultInfo) : Prop :=
  Unwritten s r k ∨ ∃ v, s.regs.get r = some v ∧ Unwritten2 s q p k

/-- The fault of an access that is not admitted (`60_exceptions.md` R516). -/
def Denied (s : State) (a : Word) (n : MemSize) (kind : AccessKind) (k : FaultInfo) : Prop :=
  ∃ why, denial s.cfg a n kind = some why ∧ k = .memoryFault s.pc a n kind why

theorem State.readReg_error {s : State} {r : Reg} {k : FaultInfo} (h : s.readReg r = .error k) : Unwritten s r k := by
  unfold State.readReg at h
  split at h
  · cases h
  · exact ⟨‹_›, (Except.error.inj h).symm⟩

/-- One register read, and nothing after it that can fail. -/
theorem one_read_error {s : State} {r : Reg} {f : Word → State} {k : FaultInfo}
    (h : (s.readReg r >>= fun v => Except.ok (f v)) = .error k) : Unwritten s r k := by
  rcases bind_error h with h | ⟨_, _, h⟩
  · exact State.readReg_error h
  · cases h

/-- Two register reads, and nothing after them that can fail. -/
theorem two_reads_error {s : State} {r q : Reg} {f : Word → Word → State} {k : FaultInfo}
    (h : (s.readReg r >>= fun v => s.readReg q >>= fun w => Except.ok (f v w)) = .error k) : Unwritten2 s r q k := by
  rcases bind_error h with h | ⟨v, hv, h⟩
  · exact .inl (State.readReg_error h)
  · exact .inr ⟨v, State.readReg_ok hv, one_read_error h⟩

theorem State.readRegs_error {s : State} {rs : List Reg} {k : FaultInfo} (h : s.readRegs rs = .error k) :
    ∃ r, rs.find? (fun q => (s.regs.get q).isNone) = some r ∧ k = .unwrittenRegister s.pc r := by
  induction rs with
  | nil => cases h
  | cons r rs ih =>
    rcases bind_error h with h | ⟨v, hv, h⟩
    · obtain ⟨hn, rfl⟩ := State.readReg_error h
      exact ⟨r, by simp [hn], rfl⟩
    · rcases bind_error h with h | ⟨_, _, h⟩
      · obtain ⟨q, hq, hk⟩ := ih h
        exact ⟨q, by simp [State.readReg_ok hv, hq], hk⟩
      · cases h

/-! ### Memory events -/

theorem State.checkAccess_error {s : State} {a : Word} {n : MemSize} {kind : AccessKind} {k : FaultInfo}
    (h : s.checkAccess a n kind = .error k) : Denied s a n kind k := by
  unfold State.checkAccess at h
  split at h
  · cases h
  · exact ⟨_, ‹_›, (Except.error.inj h).symm⟩

theorem State.memRead_error {s : State} {a : Word} {n : MemSize} {k : FaultInfo} (h : s.memRead a n = .error k) :
    Denied s a n .read k := by
  rcases bind_error h with h | ⟨_, _, h⟩
  · exact State.checkAccess_error h
  · cases h

theorem State.memWrite_error {s : State} {a : Word} {n : MemSize} {v : Word} {k : FaultInfo}
    (h : s.memWrite a n v = .error k) : Denied s a n .write k := by
  rcases bind_error h with h | ⟨_, _, h⟩
  · exact State.checkAccess_error h
  · cases h

theorem State.atomicEvent_error {s : State} {a : Word} {n : MemSize} {f : Word → Option Word} {k : FaultInfo}
    (h : s.atomicEvent a n f = .error k) : Denied s a n .atomic k := by
  rcases bind_error h with h | ⟨_, _, h⟩
  · exact State.checkAccess_error h
  · dsimp only at h
    split at h <;> cases h

/-! ### Loads, stores and atomic operations -/

theorem State.load_error {s : State} {dst src : Reg} {off : BitVec 16} {n : MemSize} {f : Word → Word} {k : FaultInfo}
    (h : s.load dst src off n f = .error k) :
    Unwritten s src k ∨
      ∃ base, s.regs.get src = some base ∧ Denied s (effectiveAddress base off) n .read k := by
  rcases bind_error h with h | ⟨base, hb, h⟩
  · exact .inl (State.readReg_error h)
  · rcases bind_error h with h | ⟨_, _, h⟩
    · exact .inr ⟨base, State.readReg_ok hb, State.memRead_error h⟩
    · cases h

theorem State.storeImm_error {s : State} {dst : Reg} {off : BitVec 16} {imm : BitVec 32} {n : MemSize} {k : FaultInfo}
    (h : s.storeImm dst off imm n = .error k) :
    Unwritten s dst k ∨
      ∃ base, s.regs.get dst = some base ∧ Denied s (effectiveAddress base off) n .write k := by
  rcases bind_error h with h | ⟨base, hb, h⟩
  · exact .inl (State.readReg_error h)
  · rcases bind_error h with h | ⟨_, _, h⟩
    · exact .inr ⟨base, State.readReg_ok hb, State.memWrite_error h⟩
    · cases h

theorem State.storeReg_error {s : State} {dst src : Reg} {off : BitVec 16} {n : MemSize} {k : FaultInfo}
    (h : s.storeReg dst src off n = .error k) :
    Unwritten2 s dst src k ∨
      ∃ base v, s.regs.get dst = some base ∧ s.regs.get src = some v ∧
        Denied s (effectiveAddress base off) n .write k := by
  rcases bind_error h with h | ⟨base, hb, h⟩
  · exact .inl (.inl (State.readReg_error h))
  · rcases bind_error h with h | ⟨v, hv, h⟩
    · exact .inl (.inr ⟨base, State.readReg_ok hb, State.readReg_error h⟩)
    · rcases bind_error h with h | ⟨_, _, h⟩
      · exact .inr ⟨base, v, State.readReg_ok hb, State.readReg_ok hv, State.memWrite_error h⟩
      · cases h

/-- The common form of the atomic operations but compare and exchange. -/
theorem atomic_error {s : State} {dst src : Reg} {off : BitVec 16} {n : MemSize} {f : Word → Word → Option Word}
    {g : Word → Word → Word × State → State} {k : FaultInfo}
    (h : (s.readReg dst >>= fun b => s.readReg src >>= fun v =>
      s.atomicEvent (effectiveAddress b off) n (f v) >>= fun p => Except.ok (g b v p)) = .error k) :
    Unwritten2 s dst src k ∨
      ∃ base v, s.regs.get dst = some base ∧ s.regs.get src = some v ∧
        Denied s (effectiveAddress base off) n .atomic k := by
  rcases bind_error h with h | ⟨base, hb, h⟩
  · exact .inl (.inl (State.readReg_error h))
  · rcases bind_error h with h | ⟨v, hv, h⟩
    · exact .inl (.inr ⟨base, State.readReg_ok hb, State.readReg_error h⟩)
    · rcases bind_error h with h | ⟨_, _, h⟩
      · exact .inr ⟨base, v, State.readReg_ok hb, State.readReg_ok hv, State.atomicEvent_error h⟩
      · cases h

/-- The common form of the two compare and exchange operations. -/
theorem atomicCompare_error {s : State} {dst src : Reg} {off : BitVec 16} {n : MemSize}
    {f : Word → Word → Word → Option Word} {g : Word → Word → Word → Word × State → State} {k : FaultInfo}
    (h : (s.readReg dst >>= fun b => s.readReg src >>= fun v => s.readReg .r0 >>= fun e =>
      s.atomicEvent (effectiveAddress b off) n (f v e) >>= fun p => Except.ok (g b v e p)) = .error k) :
    Unwritten3 s dst src .r0 k ∨
      ∃ base v e, s.regs.get dst = some base ∧ s.regs.get src = some v ∧ s.regs.get .r0 = some e ∧
        Denied s (effectiveAddress base off) n .atomic k := by
  rcases bind_error h with h | ⟨base, hb, h⟩
  · exact .inl (.inl (State.readReg_error h))
  · rcases bind_error h with h | ⟨v, hv, h⟩
    · exact .inl (.inr ⟨base, State.readReg_ok hb, .inl (State.readReg_error h)⟩)
    · rcases bind_error h with h | ⟨e, he, h⟩
      · exact .inl (.inr ⟨base, State.readReg_ok hb, .inr ⟨v, State.readReg_ok hv, State.readReg_error h⟩⟩)
      · rcases bind_error h with h | ⟨_, _, h⟩
        · exact .inr ⟨base, v, e, State.readReg_ok hb, State.readReg_ok hv, State.readReg_ok he,
            State.atomicEvent_error h⟩
        · cases h

/-! ### Calls, exit and wide loads -/

theorem State.callHelper_error {s : State} {tb : HelperTable} {imm : BitVec 32} {k : FaultInfo}
    (h : s.callHelper tb imm = .error k) :
    ((helperTable s.cfg tb).lookup imm = none ∧ k = .unknownHelper s.pc imm tb) ∨
      ∃ f, (helperTable s.cfg tb).lookup imm = some f ∧
        (s.readArgs f.arity.val = .error k ∨
          ∃ args, s.readArgs f.arity.val = .ok args ∧ s.answerOf tb imm f args = .failure ∧
            k = .helperFault s.pc imm) := by
  unfold State.callHelper at h
  split at h
  · exact .inl ⟨‹_›, (Except.error.inj h).symm⟩
  · refine .inr ⟨_, ‹_›, ?_⟩
    rcases bind_error h with h | ⟨args, ha, h⟩
    · exact .inl h
    · split at h
      · exact .inr ⟨args, ha, ‹_›, (Except.error.inj h).symm⟩
      · cases h

theorem State.callLocal_error {s : State} {d : Int} {k : FaultInfo} (h : s.callLocal d = .error k) :
    s.cfg.maxCallDepth ≤ s.frames.length + 1 ∧ k = .callDepthExceeded s.pc := by
  unfold State.callLocal at h
  split at h
  · exact ⟨‹_›, (Except.error.inj h).symm⟩
  · cases h

theorem State.leaveOrFinish_error {s : State} {k : FaultInfo} (h : s.leaveOrFinish = .error k) :
    Unwritten s .r0 k := by
  rcases bind_error h with h | ⟨_, _, h⟩
  · exact State.readReg_error h
  · split at h <;> cases h

theorem State.resolve_error {s : State} {subtype : RefSubtype} {arg : BitVec 32} {v : Option Word} {k : FaultInfo}
    (h : s.resolve subtype arg v = .error k) : v = none ∧ k = .unresolvedReference s.pc subtype arg := by
  unfold State.resolve at h
  split at h
  · cases h
  · exact ⟨rfl, (Except.error.inj h).symm⟩

theorem State.mapValue_error {s : State} {subtype : RefSubtype} {arg next : BitVec 32} {map : Option Word}
    {k : FaultInfo} (h : s.mapValue subtype arg map next = .error k) :
    k = .unresolvedReference s.pc subtype arg ∧
      (map = none ∨ ∃ m, map = some m ∧ s.cfg.mapVal.lookup m = none) := by
  rcases bind_error h with h | ⟨m, hm, h⟩
  · obtain ⟨hn, hk⟩ := State.resolve_error h
    exact ⟨hk, .inl hn⟩
  · rcases bind_error h with h | ⟨_, _, h⟩
    · obtain ⟨hn, hk⟩ := State.resolve_error h
      exact ⟨hk, .inr ⟨m, State.resolve_ok hm, hn⟩⟩
    · cases h

theorem State.loadRef_error {s : State} {dst : Reg} {v : Except FaultInfo Word} {k : FaultInfo}
    (h : s.loadRef dst v = .error k) : v = .error k := by
  rcases bind_error h with h | ⟨_, _, h⟩
  · exact h
  · cases h

end Sys2Proof.Machine
end

