-- ==== Sys2Proof/Tests/Slice0.lean ====
section
/-! SUPPORT. Tests. Expected values are the words and results of `95_test_vectors.md` and `96_test_vectors_derived.md`
(V1 to V333), or are worked out by hand from the rule a docstring cites. -/

namespace Sys2Proof.Tests

open Sys2Proof.Machine

/-! ### Every constructor's decoding, from words written out by the spec's encoding -/

/-- The slot whose eight bytes, in rising address, are the hexadecimal digits of n in pairs. -/
def bytesOf (n : Nat) : Slot :=
  let b := fun k => BitVec.ofNat 8 (n / 2 ^ (8 * (7 - k)))
  ⟨b 0, b 1, b 2, b 3, b 4, b 5, b 6, b 7⟩

/-- The instruction the decoder reads from slots, or none. -/
def readBy (e : Endian) (disp : LocalCallDisp) (slots : List Nat) : Option Instr :=
  match decode e disp (slots.map bytesOf) with
  | .ok i => some i
  | .error _ => none

/-- Every row's little-endian and big-endian slots decode to the instruction beside them. -/
def decodes (rows : List (List Nat × List Nat × Instr)) : Bool :=
  rows.all fun r => readBy .little .offset r.1 == some r.2.2 && readBy .big .offset r.2.1 == some r.2.2

/-- The 64-bit arithmetic, V1 to V20. -/
theorem test_decode_alu64_a :
    decodes
      [([0x0701000044332211], [0x0710000011223344], .add64K .r1 0x11223344),
       ([0x0f21000000000000], [0x0f12000000000000], .add64X .r1 .r2),
       ([0x1701000001000000], [0x1710000000000001], .sub64K .r1 1),
       ([0x1f21000000000000], [0x1f12000000000000], .sub64X .r1 .r2),
       ([0x27010000feffffff], [0x27100000fffffffe], .mul64K .r1 0xfffffffe),
       ([0x2f21000000000000], [0x2f12000000000000], .mul64X .r1 .r2),
       ([0x3701000003000000], [0x3710000000000003], .div64K .r1 3),
       ([0x3f21000000000000], [0x3f12000000000000], .div64X .r1 .r2),
       ([0x37010100feffffff], [0x37100001fffffffe], .sdiv64K .r1 0xfffffffe),
       ([0x3f21010000000000], [0x3f12000100000000], .sdiv64X .r1 .r2),
       ([0x4701000000ffffff], [0x47100000ffffff00], .or64K .r1 0xffffff00),
       ([0x4f21000000000000], [0x4f12000000000000], .or64X .r1 .r2)] = true := by
  decide

/-- The 64-bit arithmetic, V21 to V39. -/
theorem test_decode_alu64_b :
    decodes
      [([0x57010000ffffff7f], [0x571000007fffffff], .and64K .r1 0x7fffffff),
       ([0x5f21000000000000], [0x5f12000000000000], .and64X .r1 .r2),
       ([0x670100003f000000], [0x671000000000003f], .lsh64K .r1 0x3f),
       ([0x6f21000000000000], [0x6f12000000000000], .lsh64X .r1 .r2),
       ([0x7701000004000000], [0x7710000000000004], .rsh64K .r1 4),
       ([0x7f21000000000000], [0x7f12000000000000], .rsh64X .r1 .r2),
       ([0x9701000003000000], [0x9710000000000003], .mod64K .r1 3),
       ([0x9f21000000000000], [0x9f12000000000000], .mod64X .r1 .r2),
       ([0x9701010002000000], [0x9710000100000002], .smod64K .r1 2),
       ([0x9f21010000000000], [0x9f12000100000000], .smod64X .r1 .r2),
       ([0xa7010000ffffffff], [0xa7100000ffffffff], .xor64K .r1 0xffffffff),
       ([0xaf44000000000000], [0xaf44000000000000], .xor64X .r4 .r4)] = true := by
  decide

/-- The 64-bit arithmetic, V40 to V53. -/
theorem test_decode_alu64_c :
    decodes
      [([0xb7010000ffffffff], [0xb7100000ffffffff], .mov64K .r1 0xffffffff),
       ([0xbfa1000000000000], [0xbf1a000000000000], .mov64X .r1 .r10),
       ([0xc70100003f000000], [0xc71000000000003f], .arsh64K .r1 0x3f),
       ([0xcf21000000000000], [0xcf12000000000000], .arsh64X .r1 .r2),
       ([0x8701000000000000], [0x8710000000000000], .neg64 .r1),
       ([0xbf21080000000000], [0xbf12000800000000], .movsx64From8 .r1 .r2),
       ([0xbf21100000000000], [0xbf12001000000000], .movsx64From16 .r1 .r2),
       ([0xbf21200000000000], [0xbf12002000000000], .movsx64From32 .r1 .r2)] = true := by
  decide

/-- The 32-bit arithmetic, V71 to V88. -/
theorem test_decode_alu32_a :
    decodes
      [([0x0401000001000000], [0x0410000000000001], .add32K .r1 1),
       ([0x0c21000000000000], [0x0c12000000000000], .add32X .r1 .r2),
       ([0x1401000001000000], [0x1410000000000001], .sub32K .r1 1),
       ([0x1c21000000000000], [0x1c12000000000000], .sub32X .r1 .r2),
       ([0x24010000feffffff], [0x24100000fffffffe], .mul32K .r1 0xfffffffe),
       ([0x2c21000000000000], [0x2c12000000000000], .mul32X .r1 .r2),
       ([0x34010000ffffffff], [0x34100000ffffffff], .div32K .r1 0xffffffff),
       ([0x3c21000000000000], [0x3c12000000000000], .div32X .r1 .r2),
       ([0x34010100feffffff], [0x34100001fffffffe], .sdiv32K .r1 0xfffffffe),
       ([0x3c21010000000000], [0x3c12000100000000], .sdiv32X .r1 .r2),
       ([0x4401000000ffffff], [0x44100000ffffff00], .or32K .r1 0xffffff00),
       ([0x4c21000000000000], [0x4c12000000000000], .or32X .r1 .r2)] = true := by
  decide

/-- The 32-bit arithmetic, V89 to V104. -/
theorem test_decode_alu32_b :
    decodes
      [([0x54010000ffffffff], [0x54100000ffffffff], .and32K .r1 0xffffffff),
       ([0x5c21000000000000], [0x5c12000000000000], .and32X .r1 .r2),
       ([0x640100001f000000], [0x641000000000001f], .lsh32K .r1 0x1f),
       ([0x6c21000000000000], [0x6c12000000000000], .lsh32X .r1 .r2),
       ([0x7401000004000000], [0x7410000000000004], .rsh32K .r1 4),
       ([0x7c21000000000000], [0x7c12000000000000], .rsh32X .r1 .r2),
       ([0x9401000003000000], [0x9410000000000003], .mod32K .r1 3),
       ([0x9c21000000000000], [0x9c12000000000000], .mod32X .r1 .r2),
       ([0x9401010002000000], [0x9410000100000002], .smod32K .r1 2),
       ([0x9c21010000000000], [0x9c12000100000000], .smod32X .r1 .r2),
       ([0xa4010000ff00ff00], [0xa410000000ff00ff], .xor32K .r1 0xff00ff),
       ([0xac11000000000000], [0xac11000000000000], .xor32X .r1 .r1)] = true := by
  decide

/-- The 32-bit arithmetic, V105 to V115. -/
theorem test_decode_alu32_c :
    decodes
      [([0xb4010000ffffffff], [0xb4100000ffffffff], .mov32K .r1 0xffffffff),
       ([0xbc21000000000000], [0xbc12000000000000], .mov32X .r1 .r2),
       ([0xc40100001f000000], [0xc41000000000001f], .arsh32K .r1 0x1f),
       ([0xcc21000000000000], [0xcc12000000000000], .arsh32X .r1 .r2),
       ([0x8401000000000000], [0x8410000000000000], .neg32 .r1),
       ([0xbc21080000000000], [0xbc12000800000000], .movsx32From8 .r1 .r2),
       ([0xbc21100000000000], [0xbc12001000000000], .movsx32From16 .r1 .r2)] = true := by
  decide

/-- The byte swaps, V124 to V132. -/
theorem test_decode_byteswap :
    decodes
      [([0xd401000010000000], [0xd410000000000010], .le16 .r1),
       ([0xd401000020000000], [0xd410000000000020], .le32 .r1),
       ([0xd401000040000000], [0xd410000000000040], .le64 .r1),
       ([0xdc01000010000000], [0xdc10000000000010], .be16 .r1),
       ([0xdc01000020000000], [0xdc10000000000020], .be32 .r1),
       ([0xdc01000040000000], [0xdc10000000000040], .be64 .r1),
       ([0xd701000010000000], [0xd710000000000010], .bswap16 .r1),
       ([0xd701000020000000], [0xd710000000000020], .bswap32 .r1),
       ([0xd701000040000000], [0xd710000000000040], .bswap64 .r1)] = true := by
  decide

/-- The 64-bit jumps, V142 to V161. -/
theorem test_decode_jump64_a :
    decodes
      [([0x0500050000000000], [0x0500000500000000], .ja 5),
       ([0x15010400ffffffff], [0x15100004ffffffff], .jeq64K .r1 4 0xffffffff),
       ([0x1d21040000000000], [0x1d12000400000000], .jeq64X .r1 .r2 4),
       ([0x25010400ffffffff], [0x25100004ffffffff], .jgt64K .r1 4 0xffffffff),
       ([0x2d21040000000000], [0x2d12000400000000], .jgt64X .r1 .r2 4),
       ([0x3501040005000000], [0x3510000400000005], .jge64K .r1 4 5),
       ([0x3d21040000000000], [0x3d12000400000000], .jge64X .r1 .r2 4),
       ([0x4501040000000080], [0x4510000480000000], .jset64K .r1 4 0x80000000),
       ([0x4d21040000000000], [0x4d12000400000000], .jset64X .r1 .r2 4),
       ([0x5501feff00000000], [0x5510fffe00000000], .jne64K .r1 0xfffe 0),
       ([0x5d11040000000000], [0x5d11000400000000], .jne64X .r1 .r1 4),
       ([0x65010400ffffffff], [0x65100004ffffffff], .jsgt64K .r1 4 0xffffffff)] = true := by
  decide

/-- The 64-bit jumps, V162 to V172. -/
theorem test_decode_jump64_b :
    decodes
      [([0x6d21040000000000], [0x6d12000400000000], .jsgt64X .r1 .r2 4),
       ([0x75010400ffffffff], [0x75100004ffffffff], .jsge64K .r1 4 0xffffffff),
       ([0x7d21040000000000], [0x7d12000400000000], .jsge64X .r1 .r2 4),
       ([0xa5010400ffffffff], [0xa5100004ffffffff], .jlt64K .r1 4 0xffffffff),
       ([0xad21040000000000], [0xad12000400000000], .jlt64X .r1 .r2 4),
       ([0xb501040000000000], [0xb510000400000000], .jle64K .r1 4 0),
       ([0xbd21040000000000], [0xbd12000400000000], .jle64X .r1 .r2 4),
       ([0xc501040000000000], [0xc510000400000000], .jslt64K .r1 4 0),
       ([0xcd21040000000000], [0xcd12000400000000], .jslt64X .r1 .r2 4),
       ([0xd5010400feffffff], [0xd5100004fffffffe], .jsle64K .r1 4 0xfffffffe),
       ([0xdd21ff7f00000000], [0xdd127fff00000000], .jsle64X .r1 .r2 0x7fff)] = true := by
  decide

/-- The 32-bit jumps, V183 to V195. -/
theorem test_decode_jump32_a :
    decodes
      [([0x06000000a0860100], [0x06000000000186a0], .ja32 0x186a0),
       ([0x16010400ffffffff], [0x16100004ffffffff], .jeq32K .r1 4 0xffffffff),
       ([0x1e21040000000000], [0x1e12000400000000], .jeq32X .r1 .r2 4),
       ([0x26010400ffffffff], [0x26100004ffffffff], .jgt32K .r1 4 0xffffffff),
       ([0x2e21040000000000], [0x2e12000400000000], .jgt32X .r1 .r2 4),
       ([0x3601040005000000], [0x3610000400000005], .jge32K .r1 4 5),
       ([0x3e21040000000000], [0x3e12000400000000], .jge32X .r1 .r2 4),
       ([0x4601040000000080], [0x4610000480000000], .jset32K .r1 4 0x80000000),
       ([0x4e21040000000000], [0x4e12000400000000], .jset32X .r1 .r2 4),
       ([0x5601040000000000], [0x5610000400000000], .jne32K .r1 4 0),
       ([0x5e21040000000000], [0x5e12000400000000], .jne32X .r1 .r2 4),
       ([0x66010400ffffffff], [0x66100004ffffffff], .jsgt32K .r1 4 0xffffffff)] = true := by
  decide

/-- The 32-bit jumps, V196 to V207. -/
theorem test_decode_jump32_b :
    decodes
      [([0x6e21040000000000], [0x6e12000400000000], .jsgt32X .r1 .r2 4),
       ([0x76010400ffffffff], [0x76100004ffffffff], .jsge32K .r1 4 0xffffffff),
       ([0x7e21030000000000], [0x7e12000300000000], .jsge32X .r1 .r2 3),
       ([0xa6010400ffffffff], [0xa6100004ffffffff], .jlt32K .r1 4 0xffffffff),
       ([0xae21040000000000], [0xae12000400000000], .jlt32X .r1 .r2 4),
       ([0xb601040000000000], [0xb610000400000000], .jle32K .r1 4 0),
       ([0xbe21040000000000], [0xbe12000400000000], .jle32X .r1 .r2 4),
       ([0xc601040000000000], [0xc610000400000000], .jslt32K .r1 4 0),
       ([0xce21040000000000], [0xce12000400000000], .jslt32X .r1 .r2 4),
       ([0xd6010400feffffff], [0xd6100004fffffffe], .jsle32K .r1 4 0xfffffffe),
       ([0xde1a040000000000], [0xdea1000400000000], .jsle32X .r10 .r1 4)] = true := by
  decide

/-- The calls and exit, V215 to V222. -/
theorem test_decode_call_exit :
    decodes
      [([0x8500000007000000], [0x8500000000000007], .callHelper 7),
       ([0x8510020000000000], [0x8501000200000000], .callLocal 2 0),
       ([0x8520000039300000], [0x8502000000003039], .callBtf 0x3039),
       ([0x9500000000000000], [0x9500000000000000], .exit)] = true := by
  decide

/-- The loads and stores, V232 to V248. -/
theorem test_decode_load_store_a :
    decodes
      [([0x7121000000000000], [0x7112000000000000], .ldxb .r1 .r2 0),
       ([0x6921020000000000], [0x6912000200000000], .ldxh .r1 .r2 2),
       ([0x6121040000000000], [0x6112000400000000], .ldxw .r1 .r2 4),
       ([0x7921000000000000], [0x7912000000000000], .ldxdw .r1 .r2 0),
       ([0x9121000000000000], [0x9112000000000000], .ldxsb .r1 .r2 0),
       ([0x8921020000000000], [0x8912000200000000], .ldxsh .r1 .r2 2),
       ([0x8121040000000000], [0x8112000400000000], .ldxsw .r1 .r2 4),
       ([0x7201030034120000], [0x7210000300001234], .stb .r1 3 0x1234),
       ([0x6a010200feffffff], [0x6a100002fffffffe], .sth .r1 2 0xfffffffe),
       ([0x6201040044332211], [0x6210000411223344], .stw .r1 4 0x11223344),
       ([0x7a010800feffffff], [0x7a100008fffffffe], .stdw .r1 8 0xfffffffe),
       ([0x7321000000000000], [0x7312000000000000], .stxb .r1 .r2 0)] = true := by
  decide

/-- The loads and stores, V249 to V251. -/
theorem test_decode_load_store_b :
    decodes
      [([0x6b21000000000000], [0x6b12000000000000], .stxh .r1 .r2 0),
       ([0x6321000000000000], [0x6312000000000000], .stxw .r1 .r2 0),
       ([0x7b21000000000000], [0x7b12000000000000], .stxdw .r1 .r2 0)] = true := by
  decide

/-- The atomic operations, V269 to V281. -/
theorem test_decode_atomic_a :
    decodes
      [([0xc321000000000000], [0xc312000000000000], .atomicAdd32 .r1 .r2 0),
       ([0xc321000001000000], [0xc312000000000001], .atomicFetchAdd32 .r1 .r2 0),
       ([0xc321000040000000], [0xc312000000000040], .atomicOr32 .r1 .r2 0),
       ([0xc321000041000000], [0xc312000000000041], .atomicFetchOr32 .r1 .r2 0),
       ([0xc321000050000000], [0xc312000000000050], .atomicAnd32 .r1 .r2 0),
       ([0xc321000051000000], [0xc312000000000051], .atomicFetchAnd32 .r1 .r2 0),
       ([0xc3210000a0000000], [0xc3120000000000a0], .atomicXor32 .r1 .r2 0),
       ([0xc3210000a1000000], [0xc3120000000000a1], .atomicFetchXor32 .r1 .r2 0),
       ([0xc3210000e1000000], [0xc3120000000000e1], .atomicXchg32 .r1 .r2 0),
       ([0xc3210000f1000000], [0xc3120000000000f1], .atomicCmpxchg32 .r1 .r2 0),
       ([0xdb21000000000000], [0xdb12000000000000], .atomicAdd64 .r1 .r2 0),
       ([0xdb21080001000000], [0xdb12000800000001], .atomicFetchAdd64 .r1 .r2 8)] = true := by
  decide

/-- The atomic operations, V283 to V291. -/
theorem test_decode_atomic_b :
    decodes
      [([0xdb21000040000000], [0xdb12000000000040], .atomicOr64 .r1 .r2 0),
       ([0xdb21000041000000], [0xdb12000000000041], .atomicFetchOr64 .r1 .r2 0),
       ([0xdb21000050000000], [0xdb12000000000050], .atomicAnd64 .r1 .r2 0),
       ([0xdb21000051000000], [0xdb12000000000051], .atomicFetchAnd64 .r1 .r2 0),
       ([0xdb210000a0000000], [0xdb120000000000a0], .atomicXor64 .r1 .r2 0),
       ([0xdb210000a1000000], [0xdb120000000000a1], .atomicFetchXor64 .r1 .r2 0),
       ([0xdb210000e1000000], [0xdb120000000000e1], .atomicXchg64 .r1 .r2 0),
       ([0xdb210000f1000000], [0xdb120000000000f1], .atomicCmpxchg64 .r1 .r2 0)] = true := by
  decide

/-- The wide loads, V305 to V312. -/
theorem test_decode_imm64 :
    decodes
      [([0x1801000088776655, 0x0000000044332211], [0x1810000055667788, 0x0000000011223344],
        .lddw .r1 0x55667788 0x11223344),
       ([0x1811000005000000, 0x0000000000000000], [0x1811000000000005, 0x0000000000000000], .ldMapFd .r1 5),
       ([0x1821000005000000, 0x0000000010000000], [0x1812000000000005, 0x0000000000000010],
        .ldMapValFd .r1 5 0x10),
       ([0x1832000003000000, 0x0000000000000000], [0x1823000000000003, 0x0000000000000000], .ldVarAddr .r2 3),
       ([0x1841000003000000, 0x0000000000000000], [0x1814000000000003, 0x0000000000000000], .ldCodeAddr .r1 3),
       ([0x1851000000000000, 0x0000000000000000], [0x1815000000000000, 0x0000000000000000], .ldMapIdx .r1 0),
       ([0x1861000000000000, 0x0000000004000000], [0x1816000000000000, 0x0000000000000004],
        .ldMapValIdx .r1 0 4)] = true := by
  decide

/-- The legacy rows keep every field (R500): V324 to V329, 8-byte sizes, and fields no other row has. -/
theorem test_decode_legacy :
    decodes
      [([0x200000000e000000], [0x200000000000000e], .ldAbs .w 0 0 0 14),
       ([0x280000000c000000], [0x280000000000000c], .ldAbs .h 0 0 0 12),
       ([0x3000000017000000], [0x3000000000000017], .ldAbs .b 0 0 0 23),
       ([0x38f1ffff04000000], [0x381fffff00000004], .ldAbs .dw 1 15 0xffff 4),
       ([0x4010000000000000], [0x4001000000000000], .ldInd .w 0 1 0 0),
       ([0x4810000000000000], [0x4801000000000000], .ldInd .h 0 1 0 0),
       ([0x5010000000000000], [0x5001000000000000], .ldInd .b 0 1 0 0),
       ([0x58f1ffff04000000], [0x581fffff00000004], .ldInd .dw 1 15 0xffff 4)] = true := by
  decide

/-- No row decodes, in either byte order. -/
def undecodable (rows : List (List Nat × List Nat)) : Bool :=
  rows.all fun r => readBy .little .offset r.1 == none && readBy .big .offset r.2 == none

/-- Illegal encodings of V58 to V136: no instruction (R150 to R154). -/
theorem test_illegal_a :
    undecodable
      [([0x070a000001000000], [0x07a0000000000001]),
       ([0x070b000001000000], [0x07b0000000000001]),
       ([0x0fc1000000000000], [0x0f1c000000000000]),
       ([0x0721000001000000], [0x0712000000000001]),
       ([0x0f21000001000000], [0x0f12000000000001]),
       ([0x0f21010000000000], [0x0f12000100000000]),
       ([0x3701020005000000], [0x3710000200000005]),
       ([0xbf21180000000000], [0xbf12001800000000]),
       ([0xb701080005000000], [0xb710000800000005]),
       ([0x8f21000000000000], [0x8f12000000000000]),
       ([0x8701000001000000], [0x8710000000000001]),
       ([0xe701000000000000], [0xe710000000000000]),
       ([0xf701000000000000], [0xf710000000000000]),
       ([0xbc21200000000000], [0xbc12002000000000]),
       ([0xb40a000000000000], [0xb4a0000000000000]),
       ([0x8c01000000000000], [0x8c10000000000000]),
       ([0x3401ffff05000000], [0x3410ffff00000005]),
       ([0x0c21000007000000], [0x0c12000000000007]),
       ([0xec21000000000000], [0xec12000000000000]),
       ([0xd401000008000000], [0xd410000000000008])] = true := by
  decide

/-- Illegal encodings of V137 to V226: no instruction (R150 to R154). -/
theorem test_illegal_b :
    undecodable
      [([0xdc01000000000000], [0xdc10000000000000]),
       ([0xd701000018000000], [0xd710000000000018]),
       ([0xdf01000010000000], [0xdf10000000000010]),
       ([0xd421000010000000], [0xd412000000000010]),
       ([0xdc0a000010000000], [0xdca0000000000010]),
       ([0x0d00010000000000], [0x0d00000100000000]),
       ([0x0501010000000000], [0x0510000100000000]),
       ([0x0500010001000000], [0x0500000100000001]),
       ([0x150b010000000000], [0x15b0000100000000]),
       ([0x1531010000000000], [0x1513000100000000]),
       ([0x1d21010009000000], [0x1d12000100000009]),
       ([0xe500000000000000], [0xe500000000000000]),
       ([0x0e00000004000000], [0x0e00000000000004]),
       ([0x0600040004000000], [0x0600000400000004]),
       ([0x8600000001000000], [0x8600000000000001]),
       ([0x9600000000000000], [0x9600000000000000]),
       ([0x1621040000000000], [0x1612000400000000]),
       ([0xf600000000000000], [0xf600000000000000]),
       ([0x8530000001000000], [0x8503000000000001]),
       ([0x8501000001000000], [0x8510000000000001])] = true := by
  decide

/-- Illegal encodings of V227 to V302: no instruction (R150 to R154). -/
theorem test_illegal_c :
    undecodable
      [([0x8500020001000000], [0x8500000200000001]),
       ([0x8510020002000000], [0x8501000200000002]),
       ([0x8d00000001000000], [0x8d00000000000001]),
       ([0x9500000001000000], [0x9500000000000001]),
       ([0x9d00000000000000], [0x9d00000000000000]),
       ([0x9921000000000000], [0x9912000000000000]),
       ([0x611a000000000000], [0x61a1000000000000]),
       ([0x6121000005000000], [0x6112000000000005]),
       ([0x6221000005000000], [0x6212000000000005]),
       ([0x6321000005000000], [0x6312000000000005]),
       ([0x8201000005000000], [0x8210000000000005]),
       ([0x6001000005000000], [0x6010000000000005]),
       ([0xa121000000000000], [0xa112000000000000]),
       ([0xe121000000000000], [0xe112000000000000]),
       ([0xd321000000000000], [0xd312000000000000]),
       ([0xcb21000000000000], [0xcb12000000000000]),
       ([0xc321000010000000], [0xc312000000000010]),
       ([0xdb210000e0000000], [0xdb120000000000e0]),
       ([0xdb210000f0000000], [0xdb120000000000f0]),
       ([0xdb21000001010000], [0xdb12000000000101])] = true := by
  decide

/-- Illegal encodings of V303 to V323: no instruction (R150 to R154). -/
theorem test_illegal_d :
    undecodable
      [([0xdba1000001000000], [0xdb1a000000000001]),
       ([0xc201000000000000], [0xc210000000000000]),
       ([0x1801000001000000, 0x0700000000000000], [0x1810000000000001, 0x0700000000000000]),
       ([0x1801000001000000, 0x0000010000000000], [0x1810000000000001, 0x0000000100000000]),
       ([0x1871000001000000, 0x0000000000000000], [0x1817000000000001, 0x0000000000000000]),
       ([0x1801040001000000, 0x0000000000000000], [0x1810000400000001, 0x0000000000000000]),
       ([0x180a000001000000, 0x0000000000000000], [0x18a0000000000001, 0x0000000000000000]),
       ([0x1811000005000000, 0x0000000001000000], [0x1811000000000005, 0x0000000000000001]),
       ([0x1801000001000000], [0x1810000000000001]),
       ([0x0000000005000000], [0x0000000000000005]),
       ([0x1001000001000000, 0x0000000000000000], [0x1010000000000001, 0x0000000000000000]),
       ([0x0801000001000000, 0x0000000000000000], [0x0810000000000001, 0x0000000000000000])] = true := by
  decide

/-! ### One instruction on a small state -/

/-- A running machine with the parameters of the vectors' conventions, the registers and bytes given, and every other
register but R10 unwritten. -/
def machine (e : Endian) (regs : List (Reg × Word)) (area : Nat × List Byte) : State :=
  regs.foldl (fun s r => s.writeReg r.1 r.2)
    { State.launch { Config.default with endian := e } [] [] ⟨[]⟩ with mem := Memory.setAll ⟨[]⟩ area.1 area.2 }

/-- The instruction, run on `s`, leaves the machine running at `pc` with these registers and bytes. -/
def gives (i : Instr) (s : State) (pc : Int) (regs : List (Reg × Word)) (area : Nat × List Byte) : Bool :=
  match exec i s with
  | .next t =>
    t.status == .running && t.pc == pc && regs.all (fun r => t.regs.get r.1 == some r.2) &&
      (List.range area.2.length).map (fun k => t.mem.byte? (area.1 + k)) == area.2.map some
  | _ => false

/-- Each row: an instruction at pc 0, registers before, registers after. The next pc is 1. -/
def computes (e : Endian) (rows : List (Instr × List (Reg × Word) × List (Reg × Word))) : Bool :=
  rows.all fun r => gives r.1 (machine e r.2.1 (0, [])) 1 r.2.2 (0, [])

/-- Each row: an instruction at pc 0, registers before, and where pc goes. -/
def goes (rows : List (Instr × List (Reg × Word) × Int)) : Bool :=
  rows.all fun r => gives r.1 (machine .little r.2.1 (0, [])) r.2.2 r.2.1 (0, [])

/-- Registers, and bytes from an address on. -/
abbrev Given := List (Reg × Word) × Nat × List Byte

/-- Each row: an instruction at pc 0, what is given before, and what it leaves. The next pc is 1. -/
def accesses (e : Endian) (rows : List (Instr × Given × Given)) : Bool :=
  rows.all fun r => gives r.1 (machine e r.2.1.1 r.2.1.2) 1 r.2.2.1 r.2.2.2

/-- The 64-bit arithmetic (V1 to V16). -/
theorem test_alu64_a :
    computes .little
      [(.add64K .r1 0x11223344, [(.r1, 1)], [(.r1, 0x11223345)]),
       (.add64K .r1 0xffffffff, [(.r1, 0)], [(.r1, 0xffffffffffffffff)]),
       (.add64X .r1 .r2, [(.r1, 0xffffffffffffffff), (.r2, 1)], [(.r1, 0)]),
       (.add64X .r1 .r10, [(.r1, 0xfffffffffffffff8)], [(.r1, 0xfff8)]),
       (.sub64K .r1 1, [(.r1, 0)], [(.r1, 0xffffffffffffffff)]),
       (.sub64X .r1 .r2, [(.r1, 5), (.r2, 7)], [(.r1, 0xfffffffffffffffe)]),
       (.mul64K .r1 0xfffffffe, [(.r1, 3)], [(.r1, 0xfffffffffffffffa)]),
       (.mul64X .r1 .r2, [(.r1, 0x100000000), (.r2, 0x100000000)], [(.r1, 0)]),
       (.div64K .r1 3, [(.r1, 0xa)], [(.r1, 3)]),
       (.div64K .r1 0xffffffff, [(.r1, 0xfffffffffffffffe)], [(.r1, 0)]),
       (.div64X .r1 .r2, [(.r1, 0xffffffffffffffff), (.r2, 2)], [(.r1, 0x7fffffffffffffff)]),
       (.div64X .r1 .r2, [(.r1, 7), (.r2, 0)], [(.r1, 0)]),
       (.sdiv64K .r1 0xfffffffe, [(.r1, 0xfffffffffffffff9)], [(.r1, 3)]),
       (.sdiv64K .r1 2, [(.r1, 0xfffffffffffffff9)], [(.r1, 0xfffffffffffffffd)])] = true := by
  decide

/-- The 64-bit arithmetic (V17 to V30). -/
theorem test_alu64_b :
    computes .little
      [(.sdiv64X .r1 .r2, [(.r1, 0x8000000000000000), (.r2, 0xffffffffffffffff)], [(.r1, 0x8000000000000000)]),
       (.sdiv64X .r1 .r2, [(.r1, 0xfffffffffffffff9), (.r2, 0)], [(.r1, 0)]),
       (.or64K .r1 0xffffff00, [(.r1, 0x12)], [(.r1, 0xffffffffffffff12)]),
       (.or64X .r1 .r2, [(.r1, 0xf0), (.r2, 0xf)], [(.r1, 0xff)]),
       (.and64K .r1 0x7fffffff, [(.r1, 0xffffffffffffffff)], [(.r1, 0x7fffffff)]),
       (.and64K .r1 0xfffffff0, [(.r1, 0x123456789abcdef7)], [(.r1, 0x123456789abcdef0)]),
       (.and64X .r1 .r2, [(.r1, 0xff00ff00), (.r2, 0xff00ff0)], [(.r1, 0xf000f00)]),
       (.lsh64K .r1 0x3f, [(.r1, 3)], [(.r1, 0x8000000000000000)]),
       (.lsh64K .r1 0x43, [(.r1, 1)], [(.r1, 8)]),
       (.lsh64X .r1 .r2, [(.r1, 0x1234), (.r2, 0x40)], [(.r1, 0x1234)]),
       (.lsh64X .r1 .r2, [(.r1, 1), (.r2, 0xffffffffffffff01)], [(.r1, 2)]),
       (.rsh64K .r1 4, [(.r1, 0x80000000000000f0)], [(.r1, 0x80000000000000f)]),
       (.rsh64X .r1 .r2, [(.r1, 0xffffffffffffffff), (.r2, 0x3f)], [(.r1, 1)]),
       (.mod64K .r1 3, [(.r1, 0xa)], [(.r1, 1)])] = true := by
  decide

/-- The 64-bit arithmetic (V31 to V44). -/
theorem test_alu64_c :
    computes .little
      [(.mod64K .r1 0, [(.r1, 0xa)], [(.r1, 0xa)]),
       (.mod64X .r1 .r2, [(.r1, 0xffffffffffffffff), (.r2, 0xa)], [(.r1, 5)]),
       (.mod64X .r1 .r2, [(.r1, 0x1234567800000007), (.r2, 0)], [(.r1, 0x1234567800000007)]),
       (.smod64K .r1 2, [(.r1, 0xfffffffffffffff9)], [(.r1, 0xffffffffffffffff)]),
       (.smod64K .r1 0xfffffffe, [(.r1, 7)], [(.r1, 1)]),
       (.smod64X .r1 .r2, [(.r1, 0x8000000000000000), (.r2, 0xffffffffffffffff)], [(.r1, 0)]),
       (.smod64X .r1 .r2, [(.r1, 0xfffffffffffffff9), (.r2, 0)], [(.r1, 0xfffffffffffffff9)]),
       (.xor64K .r1 0xffffffff, [(.r1, 0xff00ff00ff00ff)], [(.r1, 0xff00ff00ff00ff00)]),
       (.xor64X .r4 .r4, [(.r4, 0xdeadbeef)], [(.r4, 0)]),
       (.mov64K .r1 0xffffffff, [], [(.r1, 0xffffffffffffffff)]),
       (.mov64K .r0 0x7fffffff, [], [(.r0, 0x7fffffff)]),
       (.mov64X .r1 .r10, [], [(.r1, 0x10000)]),
       (.mov64X .r2 .r1, [(.r1, 0x123456789abcdef0)], [(.r2, 0x123456789abcdef0)]),
       (.arsh64K .r1 0x3f, [(.r1, 0x8000000000000000)], [(.r1, 0xffffffffffffffff)])] = true := by
  decide

/-- The 64-bit arithmetic (V45 to V54). -/
theorem test_alu64_d :
    computes .little
      [(.arsh64K .r1 4, [(.r1, 0x7000000000000000)], [(.r1, 0x700000000000000)]),
       (.arsh64X .r1 .r2, [(.r1, 0xfffffffffffffff0), (.r2, 0x41)], [(.r1, 0xfffffffffffffff8)]),
       (.neg64 .r1, [(.r1, 1)], [(.r1, 0xffffffffffffffff)]),
       (.neg64 .r1, [(.r1, 0)], [(.r1, 0)]),
       (.movsx64From8 .r1 .r2, [(.r2, 0x1234567890abcd80)], [(.r1, 0xffffffffffffff80)]),
       (.movsx64From8 .r1 .r2, [(.r2, 0x17f)], [(.r1, 0x7f)]),
       (.movsx64From16 .r1 .r2, [(.r2, 0x18000)], [(.r1, 0xffffffffffff8000)]),
       (.movsx64From32 .r1 .r2, [(.r2, 0x180000000)], [(.r1, 0xffffffff80000000)]),
       (.movsx64From32 .r1 .r1, [(.r1, 0xffffffff7fffffff)], [(.r1, 0x7fffffff)])] = true := by
  decide

/-- The 32-bit arithmetic (V71 to V84). -/
theorem test_alu32_a :
    computes .little
      [(.add32K .r1 1, [(.r1, 0xffffffffffffffff)], [(.r1, 0)]),
       (.add32K .r1 0xffffffff, [(.r1, 0xdeadbeef00000005)], [(.r1, 4)]),
       (.add32X .r1 .r2, [(.r1, 0xffffffffffffffff), (.r2, 2)], [(.r1, 1)]),
       (.add32X .r1 .r2, [(.r1, 1), (.r2, 0xdeadbeef00000001)], [(.r1, 2)]),
       (.sub32K .r1 1, [(.r1, 0)], [(.r1, 0xffffffff)]),
       (.sub32X .r1 .r2, [(.r1, 5), (.r2, 7)], [(.r1, 0xfffffffe)]),
       (.mul32K .r1 0xfffffffe, [(.r1, 3)], [(.r1, 0xfffffffa)]),
       (.mul32X .r1 .r2, [(.r1, 0x10000), (.r2, 0x10000)], [(.r1, 0)]),
       (.div32K .r1 0xffffffff, [(.r1, 0xfffffffe)], [(.r1, 0)]),
       (.div32K .r1 0, [(.r1, 0xdeadbeef00000009)], [(.r1, 0)]),
       (.div32X .r1 .r2, [(.r1, 0xdeadbeef00000064), (.r2, 7)], [(.r1, 0xe)]),
       (.div32X .r1 .r2, [(.r1, 0x64), (.r2, 0xdeadbeef00000000)], [(.r1, 0)]),
       (.sdiv32K .r1 0xfffffffe, [(.r1, 0xfffffff9)], [(.r1, 3)]),
       (.sdiv32K .r1 2, [(.r1, 0xfffffff9)], [(.r1, 0xfffffffd)])] = true := by
  decide

/-- The 32-bit arithmetic (V85 to V98). -/
theorem test_alu32_b :
    computes .little
      [(.sdiv32X .r1 .r2, [(.r1, 0x80000000), (.r2, 0xffffffff)], [(.r1, 0x80000000)]),
       (.sdiv32X .r1 .r2, [(.r1, 0xfffffff9), (.r2, 0)], [(.r1, 0)]),
       (.or32K .r1 0xffffff00, [(.r1, 0xdeadbeef00000012)], [(.r1, 0xffffff12)]),
       (.or32X .r1 .r2, [(.r1, 0xf0), (.r2, 0xf)], [(.r1, 0xff)]),
       (.and32K .r1 0xffffffff, [(.r1, 0x123456789abcdef0)], [(.r1, 0x9abcdef0)]),
       (.and32X .r1 .r2, [(.r1, 0xff00ff00), (.r2, 0xff00ff0)], [(.r1, 0xf000f00)]),
       (.lsh32K .r1 0x1f, [(.r1, 3)], [(.r1, 0x80000000)]),
       (.lsh32K .r1 0x23, [(.r1, 1)], [(.r1, 8)]),
       (.lsh32X .r1 .r2, [(.r1, 0xdeadbeef00001234), (.r2, 0x20)], [(.r1, 0x1234)]),
       (.rsh32K .r1 4, [(.r1, 0x1234567880000000)], [(.r1, 0x8000000)]),
       (.rsh32X .r1 .r2, [(.r1, 0xffffffff), (.r2, 0x3f)], [(.r1, 1)]),
       (.mod32K .r1 3, [(.r1, 0xa)], [(.r1, 1)]),
       (.mod32K .r1 0, [(.r1, 0xdeadbeef0000000a)], [(.r1, 0xa)]),
       (.mod32X .r1 .r2, [(.r1, 0xffffffff), (.r2, 0xa)], [(.r1, 5)])] = true := by
  decide

/-- The 32-bit arithmetic (V99 to V113). -/
theorem test_alu32_c :
    computes .little
      [(.mod32X .r1 .r2, [(.r1, 0xdeadbeef00000007), (.r2, 0)], [(.r1, 7)]),
       (.smod32K .r1 2, [(.r1, 0xfffffff9)], [(.r1, 0xffffffff)]),
       (.smod32X .r1 .r2, [(.r1, 0x80000000), (.r2, 0xffffffff)], [(.r1, 0)]),
       (.smod32X .r1 .r2, [(.r1, 0xdeadbeeffffffff9), (.r2, 0)], [(.r1, 0xfffffff9)]),
       (.xor32K .r1 0xff00ff, [(.r1, 0xffffffff0000ffff)], [(.r1, 0xffff00)]),
       (.xor32X .r1 .r1, [(.r1, 0xffffffffffffffff)], [(.r1, 0)]),
       (.mov32K .r1 0xffffffff, [], [(.r1, 0xffffffff)]),
       (.mov32X .r1 .r2, [(.r2, 0x123456789abcdef0)], [(.r1, 0x9abcdef0)]),
       (.mov32X .r1 .r10, [], [(.r1, 0x10000)]),
       (.arsh32K .r1 0x1f, [(.r1, 0x80000000)], [(.r1, 0xffffffff)]),
       (.arsh32K .r1 4, [(.r1, 0xffffffff70000000)], [(.r1, 0x7000000)]),
       (.arsh32X .r1 .r2, [(.r1, 0xfffffff0), (.r2, 0x21)], [(.r1, 0xfffffff8)]),
       (.neg32 .r1, [(.r1, 1)], [(.r1, 0xffffffff)]),
       (.neg32 .r1, [(.r1, 0xdeadbeef80000000)], [(.r1, 0x80000000)])] = true := by
  decide

/-- The 32-bit arithmetic (V114 to V116). -/
theorem test_alu32_d :
    computes .little
      [(.movsx32From8 .r1 .r2, [(.r2, 0x1234567890abcd80)], [(.r1, 0xffffff80)]),
       (.movsx32From16 .r1 .r2, [(.r2, 0x18000)], [(.r1, 0xffff8000)]),
       (.movsx32From16 .r1 .r2, [(.r2, 0xffff7fff)], [(.r1, 0x7fff)])] = true := by
  decide

/-- The byte swaps, little-endian (V124 to V134). -/
theorem test_byteswap_little :
    computes .little
      [(.le16 .r1, [(.r1, 0x1122334455667788)], [(.r1, 0x7788)]),
       (.le16 .r1, [(.r1, 0xffffffffffff0001)], [(.r1, 1)]),
       (.le32 .r1, [(.r1, 0x1122334455667788)], [(.r1, 0x55667788)]),
       (.le64 .r1, [(.r1, 0x1122334455667788)], [(.r1, 0x1122334455667788)]),
       (.be16 .r1, [(.r1, 0x1122334455667788)], [(.r1, 0x8877)]),
       (.be32 .r1, [(.r1, 0x1122334455667788)], [(.r1, 0x88776655)]),
       (.be64 .r1, [(.r1, 0x1122334455667788)], [(.r1, 0x8877665544332211)]),
       (.bswap16 .r1, [(.r1, 0x1122334455667788)], [(.r1, 0x8877)]),
       (.bswap32 .r1, [(.r1, 0x1122334455667788)], [(.r1, 0x88776655)]),
       (.bswap32 .r1, [(.r1, 0x80)], [(.r1, 0x80000000)]),
       (.bswap64 .r1, [(.r1, 0x1122334455667788)], [(.r1, 0x8877665544332211)])] = true := by
  decide

/-- The byte swaps, big-endian (V124 to V134). -/
theorem test_byteswap_big :
    computes .big
      [(.le16 .r1, [(.r1, 0x1122334455667788)], [(.r1, 0x8877)]),
       (.le16 .r1, [(.r1, 0xffffffffffff0001)], [(.r1, 0x100)]),
       (.le32 .r1, [(.r1, 0x1122334455667788)], [(.r1, 0x88776655)]),
       (.le64 .r1, [(.r1, 0x1122334455667788)], [(.r1, 0x8877665544332211)]),
       (.be16 .r1, [(.r1, 0x1122334455667788)], [(.r1, 0x7788)]),
       (.be32 .r1, [(.r1, 0x1122334455667788)], [(.r1, 0x55667788)]),
       (.be64 .r1, [(.r1, 0x1122334455667788)], [(.r1, 0x1122334455667788)]),
       (.bswap16 .r1, [(.r1, 0x1122334455667788)], [(.r1, 0x8877)]),
       (.bswap32 .r1, [(.r1, 0x1122334455667788)], [(.r1, 0x88776655)]),
       (.bswap32 .r1, [(.r1, 0x80)], [(.r1, 0x80000000)]),
       (.bswap64 .r1, [(.r1, 0x1122334455667788)], [(.r1, 0x8877665544332211)])] = true := by
  decide

/-- The 64-bit jumps, taken or not (V147 to V164). -/
theorem test_jump64_a :
    goes
      [(.jeq64K .r1 4 0xffffffff, [(.r1, 0xffffffffffffffff)], 5),
       (.jeq64K .r1 4 0xffffffff, [(.r1, 0xffffffff)], 1),
       (.jeq64X .r1 .r2 4, [(.r1, 7), (.r2, 7)], 5),
       (.jgt64K .r1 4 5, [(.r1, 0x8000000000000000)], 5),
       (.jgt64K .r1 4 0xffffffff, [(.r1, 0xfffffffffffffffe)], 1),
       (.jgt64X .r1 .r2 4, [(.r1, 5), (.r2, 5)], 1),
       (.jge64K .r1 4 5, [(.r1, 5)], 5),
       (.jge64X .r1 .r2 4, [(.r1, 4), (.r2, 5)], 1),
       (.jset64K .r1 4 0x80000000, [(.r1, 0x8000000000000000)], 5),
       (.jset64K .r1 4 0xf, [(.r1, 0xf0)], 1),
       (.jset64X .r1 .r2 4, [(.r1, 0x100000000), (.r2, 0x300000000)], 5),
       (.jne64X .r1 .r1 4, [(.r1, 9)], 1),
       (.jsgt64K .r1 4 0xffffffff, [(.r1, 0)], 5),
       (.jsgt64X .r1 .r2 4, [(.r1, 0x8000000000000000), (.r2, 0)], 1),
       (.jsge64K .r1 4 0xffffffff, [(.r1, 0xffffffffffffffff)], 5),
       (.jsge64X .r1 .r2 4, [(.r1, 0xffffffffffffffff), (.r2, 0)], 1)] = true := by
  decide

/-- The 64-bit jumps, taken or not (V165 to V172). -/
theorem test_jump64_b :
    goes
      [(.jlt64K .r1 4 0xffffffff, [(.r1, 0)], 5),
       (.jlt64X .r1 .r2 4, [(.r1, 0xffffffffffffffff), (.r2, 0)], 1),
       (.jle64K .r1 4 0, [(.r1, 0)], 5),
       (.jle64X .r1 .r2 4, [(.r1, 0x8000000000000000), (.r2, 1)], 1),
       (.jslt64K .r1 4 0, [(.r1, 0x8000000000000000)], 5),
       (.jslt64X .r1 .r2 4, [(.r1, 1), (.r2, 0xffffffffffffffff)], 1),
       (.jsle64K .r1 4 0xfffffffe, [(.r1, 0xffffffffffffffff)], 1),
       (.jsle64X .r1 .r2 0x7fff, [(.r1, 0xffffffffffffffff), (.r2, 0xffffffffffffffff)], 32768)] = true := by
  decide

/-- The 32-bit jumps, taken or not (V183 to V199). -/
theorem test_jump32_a :
    goes
      [(.ja32 0x186a0, [], 100001),
       (.jeq32K .r1 4 0xffffffff, [(.r1, 0x12345678ffffffff)], 5),
       (.jeq32X .r1 .r2 4, [(.r1, 0x100000007), (.r2, 0x200000007)], 5),
       (.jgt32K .r1 4 0xffffffff, [(.r1, 0xffffffffffffffff)], 1),
       (.jgt32X .r1 .r2 4, [(.r1, 0x80000000), (.r2, 1)], 5),
       (.jge32K .r1 4 5, [(.r1, 0xffffffff00000005)], 5),
       (.jge32X .r1 .r2 4, [(.r1, 0x100000000), (.r2, 1)], 1),
       (.jset32K .r1 4 0x80000000, [(.r1, 0x8000000000000000)], 1),
       (.jset32X .r1 .r2 4, [(.r1, 0x80000000), (.r2, 0xffffffff80000000)], 5),
       (.jne32K .r1 4 0, [(.r1, 0x100000000)], 1),
       (.jne32X .r1 .r2 4, [(.r1, 1), (.r2, 2)], 5),
       (.jsgt32K .r1 4 0xffffffff, [(.r1, 0)], 5),
       (.jsgt32X .r1 .r2 4, [(.r1, 0x80000000), (.r2, 0)], 1),
       (.jsge32K .r1 4 0xffffffff, [(.r1, 0xffffffff)], 5),
       (.jsge32X .r1 .r2 3, [(.r1, 0), (.r2, 0xffffffff)], 4),
       (.jsge32X .r1 .r2 3, [(.r1, 0xffffffff), (.r2, 0)], 1)] = true := by
  decide

/-- The 32-bit jumps, taken or not (V200 to V207). -/
theorem test_jump32_b :
    goes
      [(.jlt32K .r1 4 0xffffffff, [(.r1, 0)], 5),
       (.jlt32X .r1 .r2 4, [(.r1, 0xffffffff), (.r2, 0x100000000)], 1),
       (.jle32K .r1 4 0, [(.r1, 0xffffffff00000000)], 5),
       (.jle32X .r1 .r2 4, [(.r1, 2), (.r2, 1)], 1),
       (.jslt32K .r1 4 0, [(.r1, 0x80000000)], 5),
       (.jslt32X .r1 .r2 4, [(.r1, 0x8000000000000000), (.r2, 0)], 1),
       (.jsle32K .r1 4 0xfffffffe, [(.r1, 0xffffffff)], 1),
       (.jsle32X .r10 .r1 4, [(.r1, 0x10000)], 5)] = true := by
  decide

/-- The loads and stores, little-endian (V232 to V243). -/
theorem test_load_store_little_a :
    accesses .little
      [(.ldxb .r1 .r2 0, ([(.r2, 0x2000)], (0x2000, [0x88, 0x99, 0xaa, 0xbb, 0xcc, 0xdd, 0xee, 0xff])),
        ([(.r1, 0x88)], (0x2000, [0x88, 0x99, 0xaa, 0xbb, 0xcc, 0xdd, 0xee, 0xff]))),
       (.ldxh .r1 .r2 2, ([(.r2, 0x2000)], (0x2000, [0x88, 0x99, 0xaa, 0xbb, 0xcc, 0xdd, 0xee, 0xff])),
        ([(.r1, 0xbbaa)], (0x2000, [0x88, 0x99, 0xaa, 0xbb, 0xcc, 0xdd, 0xee, 0xff]))),
       (.ldxh .r1 .r2 1, ([(.r2, 0x2000)], (0x2000, [0x88, 0x99, 0xaa, 0xbb, 0xcc, 0xdd, 0xee, 0xff])),
        ([(.r1, 0xaa99)], (0x2000, [0x88, 0x99, 0xaa, 0xbb, 0xcc, 0xdd, 0xee, 0xff]))),
       (.ldxw .r1 .r2 4, ([(.r2, 0x2000)], (0x2000, [0x88, 0x99, 0xaa, 0xbb, 0xcc, 0xdd, 0xee, 0xff])),
        ([(.r1, 0xffeeddcc)], (0x2000, [0x88, 0x99, 0xaa, 0xbb, 0xcc, 0xdd, 0xee, 0xff]))),
       (.ldxw .r1 .r2 0xfffc, ([(.r2, 0x2008)], (0x2000, [0x88, 0x99, 0xaa, 0xbb, 0xcc, 0xdd, 0xee, 0xff])),
        ([(.r1, 0xffeeddcc)], (0x2000, [0x88, 0x99, 0xaa, 0xbb, 0xcc, 0xdd, 0xee, 0xff]))),
       (.ldxdw .r1 .r2 0, ([(.r2, 0x2000)], (0x2000, [0x88, 0x99, 0xaa, 0xbb, 0xcc, 0xdd, 0xee, 0xff])),
        ([(.r1, 0xffeeddccbbaa9988)], (0x2000, [0x88, 0x99, 0xaa, 0xbb, 0xcc, 0xdd, 0xee, 0xff]))),
       (.ldxdw .r2 .r2 0, ([(.r2, 0x2000)], (0x2000, [0x88, 0x99, 0xaa, 0xbb, 0xcc, 0xdd, 0xee, 0xff])),
        ([(.r2, 0xffeeddccbbaa9988)], (0x2000, [0x88, 0x99, 0xaa, 0xbb, 0xcc, 0xdd, 0xee, 0xff]))),
       (.ldxsb .r1 .r2 0, ([(.r2, 0x2000)], (0x2000, [0x88, 0x99, 0xaa, 0xbb, 0xcc, 0xdd, 0xee, 0xff])),
        ([(.r1, 0xffffffffffffff88)], (0x2000, [0x88, 0x99, 0xaa, 0xbb, 0xcc, 0xdd, 0xee, 0xff]))),
       (.ldxsb .r1 .r2 0, ([(.r2, 0x2000)], (0x2000, [0x7f])),
        ([(.r1, 0x7f)], (0x2000, [0x7f]))),
       (.ldxsh .r1 .r2 2, ([(.r2, 0x2000)], (0x2000, [0x88, 0x99, 0xaa, 0xbb, 0xcc, 0xdd, 0xee, 0xff])),
        ([(.r1, 0xffffffffffffbbaa)], (0x2000, [0x88, 0x99, 0xaa, 0xbb, 0xcc, 0xdd, 0xee, 0xff]))),
       (.ldxsw .r1 .r2 4, ([(.r2, 0x2000)], (0x2000, [0x88, 0x99, 0xaa, 0xbb, 0xcc, 0xdd, 0xee, 0xff])),
        ([(.r1, 0xffffffffffeeddcc)], (0x2000, [0x88, 0x99, 0xaa, 0xbb, 0xcc, 0xdd, 0xee, 0xff]))),
       (.stb .r1 3 0x1234, ([(.r1, 0x2000)], (0, [])),
        ([], (0x2003, [0x34])))] = true := by
  decide

/-- The loads and stores, little-endian (V244 to V253). -/
theorem test_load_store_little_b :
    accesses .little
      [(.sth .r1 2 0xfffffffe, ([(.r1, 0x2000)], (0, [])),
        ([], (0x2002, [0xfe, 0xff]))),
       (.stw .r1 4 0x11223344, ([(.r1, 0x2000)], (0, [])),
        ([], (0x2004, [0x44, 0x33, 0x22, 0x11]))),
       (.stdw .r1 8 0xfffffffe, ([(.r1, 0x2000)], (0, [])),
        ([], (0x2008, [0xfe, 0xff, 0xff, 0xff, 0xff, 0xff, 0xff, 0xff]))),
       (.stdw .r10 0xfff8 0x7fffffff, ([], (0, [])),
        ([], (0xfff8, [0xff, 0xff, 0xff, 0x7f, 0, 0, 0, 0]))),
       (.stxb .r1 .r2 0, ([(.r1, 0x2000), (.r2, 0x1122334455667788)], (0, [])),
        ([], (0x2000, [0x88]))),
       (.stxh .r1 .r2 0, ([(.r1, 0x2000), (.r2, 0x1122334455667788)], (0, [])),
        ([], (0x2000, [0x88, 0x77]))),
       (.stxw .r1 .r2 0, ([(.r1, 0x2000), (.r2, 0x1122334455667788)], (0, [])),
        ([], (0x2000, [0x88, 0x77, 0x66, 0x55]))),
       (.stxw .r1 .r1 0, ([(.r1, 0x2010)], (0, [])),
        ([], (0x2010, [0x10, 0x20, 0, 0]))),
       (.stxdw .r1 .r2 0, ([(.r1, 0x2000), (.r2, 0x1122334455667788)], (0, [])),
        ([], (0x2000, [0x88, 0x77, 0x66, 0x55, 0x44, 0x33, 0x22, 0x11]))),
       (.stxdw .r10 .r10 0xfff0, ([], (0, [])),
        ([], (0xfff0, [0, 0, 1, 0, 0, 0, 0, 0])))] = true := by
  decide

/-- The loads and stores, big-endian (V232 to V243). -/
theorem test_load_store_big_a :
    accesses .big
      [(.ldxb .r1 .r2 0, ([(.r2, 0x2000)], (0x2000, [0x88, 0x99, 0xaa, 0xbb, 0xcc, 0xdd, 0xee, 0xff])),
        ([(.r1, 0x88)], (0x2000, [0x88, 0x99, 0xaa, 0xbb, 0xcc, 0xdd, 0xee, 0xff]))),
       (.ldxh .r1 .r2 2, ([(.r2, 0x2000)], (0x2000, [0x88, 0x99, 0xaa, 0xbb, 0xcc, 0xdd, 0xee, 0xff])),
        ([(.r1, 0xaabb)], (0x2000, [0x88, 0x99, 0xaa, 0xbb, 0xcc, 0xdd, 0xee, 0xff]))),
       (.ldxh .r1 .r2 1, ([(.r2, 0x2000)], (0x2000, [0x88, 0x99, 0xaa, 0xbb, 0xcc, 0xdd, 0xee, 0xff])),
        ([(.r1, 0x99aa)], (0x2000, [0x88, 0x99, 0xaa, 0xbb, 0xcc, 0xdd, 0xee, 0xff]))),
       (.ldxw .r1 .r2 4, ([(.r2, 0x2000)], (0x2000, [0x88, 0x99, 0xaa, 0xbb, 0xcc, 0xdd, 0xee, 0xff])),
        ([(.r1, 0xccddeeff)], (0x2000, [0x88, 0x99, 0xaa, 0xbb, 0xcc, 0xdd, 0xee, 0xff]))),
       (.ldxw .r1 .r2 0xfffc, ([(.r2, 0x2008)], (0x2000, [0x88, 0x99, 0xaa, 0xbb, 0xcc, 0xdd, 0xee, 0xff])),
        ([(.r1, 0xccddeeff)], (0x2000, [0x88, 0x99, 0xaa, 0xbb, 0xcc, 0xdd, 0xee, 0xff]))),
       (.ldxdw .r1 .r2 0, ([(.r2, 0x2000)], (0x2000, [0x88, 0x99, 0xaa, 0xbb, 0xcc, 0xdd, 0xee, 0xff])),
        ([(.r1, 0x8899aabbccddeeff)], (0x2000, [0x88, 0x99, 0xaa, 0xbb, 0xcc, 0xdd, 0xee, 0xff]))),
       (.ldxdw .r2 .r2 0, ([(.r2, 0x2000)], (0x2000, [0x88, 0x99, 0xaa, 0xbb, 0xcc, 0xdd, 0xee, 0xff])),
        ([(.r2, 0x8899aabbccddeeff)], (0x2000, [0x88, 0x99, 0xaa, 0xbb, 0xcc, 0xdd, 0xee, 0xff]))),
       (.ldxsb .r1 .r2 0, ([(.r2, 0x2000)], (0x2000, [0x88, 0x99, 0xaa, 0xbb, 0xcc, 0xdd, 0xee, 0xff])),
        ([(.r1, 0xffffffffffffff88)], (0x2000, [0x88, 0x99, 0xaa, 0xbb, 0xcc, 0xdd, 0xee, 0xff]))),
       (.ldxsb .r1 .r2 0, ([(.r2, 0x2000)], (0x2000, [0x7f])),
        ([(.r1, 0x7f)], (0x2000, [0x7f]))),
       (.ldxsh .r1 .r2 2, ([(.r2, 0x2000)], (0x2000, [0x88, 0x99, 0xaa, 0xbb, 0xcc, 0xdd, 0xee, 0xff])),
        ([(.r1, 0xffffffffffffaabb)], (0x2000, [0x88, 0x99, 0xaa, 0xbb, 0xcc, 0xdd, 0xee, 0xff]))),
       (.ldxsw .r1 .r2 4, ([(.r2, 0x2000)], (0x2000, [0x88, 0x99, 0xaa, 0xbb, 0xcc, 0xdd, 0xee, 0xff])),
        ([(.r1, 0xffffffffccddeeff)], (0x2000, [0x88, 0x99, 0xaa, 0xbb, 0xcc, 0xdd, 0xee, 0xff]))),
       (.stb .r1 3 0x1234, ([(.r1, 0x2000)], (0, [])),
        ([], (0x2003, [0x34])))] = true := by
  decide

/-- The loads and stores, big-endian (V244 to V253). -/
theorem test_load_store_big_b :
    accesses .big
      [(.sth .r1 2 0xfffffffe, ([(.r1, 0x2000)], (0, [])),
        ([], (0x2002, [0xff, 0xfe]))),
       (.stw .r1 4 0x11223344, ([(.r1, 0x2000)], (0, [])),
        ([], (0x2004, [0x11, 0x22, 0x33, 0x44]))),
       (.stdw .r1 8 0xfffffffe, ([(.r1, 0x2000)], (0, [])),
        ([], (0x2008, [0xff, 0xff, 0xff, 0xff, 0xff, 0xff, 0xff, 0xfe]))),
       (.stdw .r10 0xfff8 0x7fffffff, ([], (0, [])),
        ([], (0xfff8, [0, 0, 0, 0, 0x7f, 0xff, 0xff, 0xff]))),
       (.stxb .r1 .r2 0, ([(.r1, 0x2000), (.r2, 0x1122334455667788)], (0, [])),
        ([], (0x2000, [0x88]))),
       (.stxh .r1 .r2 0, ([(.r1, 0x2000), (.r2, 0x1122334455667788)], (0, [])),
        ([], (0x2000, [0x77, 0x88]))),
       (.stxw .r1 .r2 0, ([(.r1, 0x2000), (.r2, 0x1122334455667788)], (0, [])),
        ([], (0x2000, [0x55, 0x66, 0x77, 0x88]))),
       (.stxw .r1 .r1 0, ([(.r1, 0x2010)], (0, [])),
        ([], (0x2010, [0, 0, 0x20, 0x10]))),
       (.stxdw .r1 .r2 0, ([(.r1, 0x2000), (.r2, 0x1122334455667788)], (0, [])),
        ([], (0x2000, [0x11, 0x22, 0x33, 0x44, 0x55, 0x66, 0x77, 0x88]))),
       (.stxdw .r10 .r10 0xfff0, ([], (0, [])),
        ([], (0xfff0, [0, 0, 0, 0, 0, 1, 0, 0])))] = true := by
  decide

/-- The atomic operations, little-endian (V269 to V281). -/
theorem test_atomic_little_a :
    accesses .little
      [(.atomicAdd32 .r1 .r2 0, ([(.r1, 0x2000), (.r2, 0x100000003)], (0x2000, [0xfe, 0xff, 0xff, 0xff])),
        ([], (0x2000, [1, 0, 0, 0]))),
       (.atomicFetchAdd32 .r1 .r2 0, ([(.r1, 0x2000), (.r2, 0xdeadbeef00000003)], (0x2000, [0xfe, 0xff, 0xff, 0xff])),
        ([(.r2, 0xfffffffe)], (0x2000, [1, 0, 0, 0]))),
       (.atomicOr32 .r1 .r2 0, ([(.r1, 0x2000), (.r2, 0xf)], (0x2000, [0xf0, 0, 0, 0])),
        ([], (0x2000, [0xff, 0, 0, 0]))),
       (.atomicFetchOr32 .r1 .r2 0, ([(.r1, 0x2000), (.r2, 0xf)], (0x2000, [0xf0, 0, 0, 0])),
        ([(.r2, 0xf0)], (0x2000, [0xff, 0, 0, 0]))),
       (.atomicAnd32 .r1 .r2 0, ([(.r1, 0x2000), (.r2, 0xff00)], (0x2000, [0x78, 0x56, 0x34, 0x12])),
        ([], (0x2000, [0, 0x56, 0, 0]))),
       (.atomicFetchAnd32 .r1 .r2 0, ([(.r1, 0x2000), (.r2, 0xff00)], (0x2000, [0x78, 0x56, 0x34, 0x12])),
        ([(.r2, 0x12345678)], (0x2000, [0, 0x56, 0, 0]))),
       (.atomicXor32 .r1 .r2 0, ([(.r1, 0x2000), (.r2, 0xffffffff)], (0x2000, [0x78, 0x56, 0x34, 0x12])),
        ([], (0x2000, [0x87, 0xa9, 0xcb, 0xed]))),
       (.atomicFetchXor32 .r1 .r2 0, ([(.r1, 0x2000), (.r2, 0xffffffff)], (0x2000, [0x78, 0x56, 0x34, 0x12])),
        ([(.r2, 0x12345678)], (0x2000, [0x87, 0xa9, 0xcb, 0xed]))),
       (.atomicXchg32 .r1 .r2 0, ([(.r1, 0x2000), (.r2, 0x1122334455667788)], (0x2000, [1, 0, 0, 0x80])),
        ([(.r2, 0x80000001)], (0x2000, [0x88, 0x77, 0x66, 0x55]))),
       (.atomicCmpxchg32 .r1 .r2 0, ([(.r0, 0xaaaaaaaa00000005), (.r1, 0x2000), (.r2, 9)], (0x2000, [5, 0, 0, 0])),
        ([(.r0, 5)], (0x2000, [9, 0, 0, 0]))),
       (.atomicAdd64 .r1 .r2 0, ([(.r1, 0x2000), (.r2, 3)], (0x2000, [0xfe, 0xff, 0xff, 0xff, 0xff, 0xff, 0xff, 0xff])),
        ([], (0x2000, [1, 0, 0, 0, 0, 0, 0, 0]))),
       (.atomicFetchAdd64 .r1 .r2 8, ([(.r1, 0x1ff8), (.r2, 1)], (0x2000, [0x29, 0, 0, 0, 0, 0, 0, 0])),
        ([(.r2, 0x29)], (0x2000, [0x2a, 0, 0, 0, 0, 0, 0, 0])))] = true := by
  decide

/-- The atomic operations, little-endian (V283 to V291). -/
theorem test_atomic_little_b :
    accesses .little
      [(.atomicOr64 .r1 .r2 0, ([(.r1, 0x2000), (.r2, 0x8000000000000000)], (0x2000, [1, 0, 0, 0, 0, 0, 0, 0])),
        ([], (0x2000, [1, 0, 0, 0, 0, 0, 0, 0x80]))),
       (.atomicFetchOr64 .r1 .r2 0, ([(.r1, 0x2000), (.r2, 0x8000000000000000)], (0x2000, [1, 0, 0, 0, 0, 0, 0, 0])),
        ([(.r2, 1)], (0x2000, [1, 0, 0, 0, 0, 0, 0, 0x80]))),
       (.atomicAnd64 .r1 .r2 0, ([(.r1, 0x2000), (.r2, 0xffffffff00000000)], (0x2000, [0x88, 0x77, 0x66, 0x55, 0x44, 0x33, 0x22, 0x11])),
        ([], (0x2000, [0, 0, 0, 0, 0x44, 0x33, 0x22, 0x11]))),
       (.atomicFetchAnd64 .r1 .r2 0, ([(.r1, 0x2000), (.r2, 0xffffffff00000000)], (0x2000, [0x88, 0x77, 0x66, 0x55, 0x44, 0x33, 0x22, 0x11])),
        ([(.r2, 0x1122334455667788)], (0x2000, [0, 0, 0, 0, 0x44, 0x33, 0x22, 0x11]))),
       (.atomicXor64 .r1 .r2 0, ([(.r1, 0x2000), (.r2, 0xffffffffffffffff)], (0x2000, [0x88, 0x77, 0x66, 0x55, 0x44, 0x33, 0x22, 0x11])),
        ([], (0x2000, [0x77, 0x88, 0x99, 0xaa, 0xbb, 0xcc, 0xdd, 0xee]))),
       (.atomicFetchXor64 .r1 .r2 0, ([(.r1, 0x2000), (.r2, 0xffffffffffffffff)], (0x2000, [0x88, 0x77, 0x66, 0x55, 0x44, 0x33, 0x22, 0x11])),
        ([(.r2, 0x1122334455667788)], (0x2000, [0x77, 0x88, 0x99, 0xaa, 0xbb, 0xcc, 0xdd, 0xee]))),
       (.atomicXchg64 .r1 .r2 0, ([(.r1, 0x2000), (.r2, 7)], (0x2000, [0x88, 0x77, 0x66, 0x55, 0x44, 0x33, 0x22, 0x11])),
        ([(.r2, 0x1122334455667788)], (0x2000, [7, 0, 0, 0, 0, 0, 0, 0]))),
       (.atomicCmpxchg64 .r1 .r2 0, ([(.r0, 0x1122334455667788), (.r1, 0x2000), (.r2, 7)], (0x2000, [0x88, 0x77, 0x66, 0x55, 0x44, 0x33, 0x22, 0x11])),
        ([(.r0, 0x1122334455667788)], (0x2000, [7, 0, 0, 0, 0, 0, 0, 0])))] = true := by
  decide

/-- The atomic operations, big-endian (V269 to V281). -/
theorem test_atomic_big_a :
    accesses .big
      [(.atomicAdd32 .r1 .r2 0, ([(.r1, 0x2000), (.r2, 0x100000003)], (0x2000, [0xff, 0xff, 0xff, 0xfe])),
        ([], (0x2000, [0, 0, 0, 1]))),
       (.atomicFetchAdd32 .r1 .r2 0, ([(.r1, 0x2000), (.r2, 0xdeadbeef00000003)], (0x2000, [0xff, 0xff, 0xff, 0xfe])),
        ([(.r2, 0xfffffffe)], (0x2000, [0, 0, 0, 1]))),
       (.atomicOr32 .r1 .r2 0, ([(.r1, 0x2000), (.r2, 0xf)], (0x2000, [0, 0, 0, 0xf0])),
        ([], (0x2000, [0, 0, 0, 0xff]))),
       (.atomicFetchOr32 .r1 .r2 0, ([(.r1, 0x2000), (.r2, 0xf)], (0x2000, [0, 0, 0, 0xf0])),
        ([(.r2, 0xf0)], (0x2000, [0, 0, 0, 0xff]))),
       (.atomicAnd32 .r1 .r2 0, ([(.r1, 0x2000), (.r2, 0xff00)], (0x2000, [0x12, 0x34, 0x56, 0x78])),
        ([], (0x2000, [0, 0, 0x56, 0]))),
       (.atomicFetchAnd32 .r1 .r2 0, ([(.r1, 0x2000), (.r2, 0xff00)], (0x2000, [0x12, 0x34, 0x56, 0x78])),
        ([(.r2, 0x12345678)], (0x2000, [0, 0, 0x56, 0]))),
       (.atomicXor32 .r1 .r2 0, ([(.r1, 0x2000), (.r2, 0xffffffff)], (0x2000, [0x12, 0x34, 0x56, 0x78])),
        ([], (0x2000, [0xed, 0xcb, 0xa9, 0x87]))),
       (.atomicFetchXor32 .r1 .r2 0, ([(.r1, 0x2000), (.r2, 0xffffffff)], (0x2000, [0x12, 0x34, 0x56, 0x78])),
        ([(.r2, 0x12345678)], (0x2000, [0xed, 0xcb, 0xa9, 0x87]))),
       (.atomicXchg32 .r1 .r2 0, ([(.r1, 0x2000), (.r2, 0x1122334455667788)], (0x2000, [0x80, 0, 0, 1])),
        ([(.r2, 0x80000001)], (0x2000, [0x55, 0x66, 0x77, 0x88]))),
       (.atomicCmpxchg32 .r1 .r2 0, ([(.r0, 0xaaaaaaaa00000005), (.r1, 0x2000), (.r2, 9)], (0x2000, [0, 0, 0, 5])),
        ([(.r0, 5)], (0x2000, [0, 0, 0, 9]))),
       (.atomicAdd64 .r1 .r2 0, ([(.r1, 0x2000), (.r2, 3)], (0x2000, [0xff, 0xff, 0xff, 0xff, 0xff, 0xff, 0xff, 0xfe])),
        ([], (0x2000, [0, 0, 0, 0, 0, 0, 0, 1]))),
       (.atomicFetchAdd64 .r1 .r2 8, ([(.r1, 0x1ff8), (.r2, 1)], (0x2000, [0, 0, 0, 0, 0, 0, 0, 0x29])),
        ([(.r2, 0x29)], (0x2000, [0, 0, 0, 0, 0, 0, 0, 0x2a])))] = true := by
  decide

/-- The atomic operations, big-endian (V283 to V291). -/
theorem test_atomic_big_b :
    accesses .big
      [(.atomicOr64 .r1 .r2 0, ([(.r1, 0x2000), (.r2, 0x8000000000000000)], (0x2000, [0, 0, 0, 0, 0, 0, 0, 1])),
        ([], (0x2000, [0x80, 0, 0, 0, 0, 0, 0, 1]))),
       (.atomicFetchOr64 .r1 .r2 0, ([(.r1, 0x2000), (.r2, 0x8000000000000000)], (0x2000, [0, 0, 0, 0, 0, 0, 0, 1])),
        ([(.r2, 1)], (0x2000, [0x80, 0, 0, 0, 0, 0, 0, 1]))),
       (.atomicAnd64 .r1 .r2 0, ([(.r1, 0x2000), (.r2, 0xffffffff00000000)], (0x2000, [0x11, 0x22, 0x33, 0x44, 0x55, 0x66, 0x77, 0x88])),
        ([], (0x2000, [0x11, 0x22, 0x33, 0x44, 0, 0, 0, 0]))),
       (.atomicFetchAnd64 .r1 .r2 0, ([(.r1, 0x2000), (.r2, 0xffffffff00000000)], (0x2000, [0x11, 0x22, 0x33, 0x44, 0x55, 0x66, 0x77, 0x88])),
        ([(.r2, 0x1122334455667788)], (0x2000, [0x11, 0x22, 0x33, 0x44, 0, 0, 0, 0]))),
       (.atomicXor64 .r1 .r2 0, ([(.r1, 0x2000), (.r2, 0xffffffffffffffff)], (0x2000, [0x11, 0x22, 0x33, 0x44, 0x55, 0x66, 0x77, 0x88])),
        ([], (0x2000, [0xee, 0xdd, 0xcc, 0xbb, 0xaa, 0x99, 0x88, 0x77]))),
       (.atomicFetchXor64 .r1 .r2 0, ([(.r1, 0x2000), (.r2, 0xffffffffffffffff)], (0x2000, [0x11, 0x22, 0x33, 0x44, 0x55, 0x66, 0x77, 0x88])),
        ([(.r2, 0x1122334455667788)], (0x2000, [0xee, 0xdd, 0xcc, 0xbb, 0xaa, 0x99, 0x88, 0x77]))),
       (.atomicXchg64 .r1 .r2 0, ([(.r1, 0x2000), (.r2, 7)], (0x2000, [0x11, 0x22, 0x33, 0x44, 0x55, 0x66, 0x77, 0x88])),
        ([(.r2, 0x1122334455667788)], (0x2000, [0, 0, 0, 0, 0, 0, 0, 7]))),
       (.atomicCmpxchg64 .r1 .r2 0, ([(.r0, 0x1122334455667788), (.r1, 0x2000), (.r2, 7)], (0x2000, [0x11, 0x22, 0x33, 0x44, 0x55, 0x66, 0x77, 0x88])),
        ([(.r0, 0x1122334455667788)], (0x2000, [0, 0, 0, 0, 0, 0, 0, 7])))] = true := by
  decide
/-! ### Well-formedness: an ill-formed term for each check, which the check refuses -/

/-- No term of the list is well-formed, under either value of `LOCAL_CALL_DISP`. -/
def illFormed (is : List Instr) : Bool := is.all fun i => !i.wf .offset && !i.wf .imm

/-- Every term of the list is well-formed, under either value of `LOCAL_CALL_DISP`. -/
def wellFormed (is : List Instr) : Bool := is.all fun i => i.wf .offset && i.wf .imm

/-- R32: R10 as the destination. -/
theorem test_wf_alu64_writes_r10 :
    illFormed
      [.add64K .r10 1, .add64X .r10 .r1, .sub64K .r10 1, .sub64X .r10 .r1, .mul64K .r10 1, .mul64X .r10 .r1,
       .div64K .r10 1, .div64X .r10 .r1, .sdiv64K .r10 1, .sdiv64X .r10 .r1, .or64K .r10 1, .or64X .r10 .r1,
       .and64K .r10 1, .and64X .r10 .r1, .lsh64K .r10 1, .lsh64X .r10 .r1, .rsh64K .r10 1, .rsh64X .r10 .r1,
       .mod64K .r10 1, .mod64X .r10 .r1, .smod64K .r10 1, .smod64X .r10 .r1, .xor64K .r10 1, .xor64X .r10 .r1,
       .mov64K .r10 1, .mov64X .r10 .r1, .arsh64K .r10 1, .arsh64X .r10 .r1, .neg64 .r10, .movsx64From8 .r10 .r1,
       .movsx64From16 .r10 .r1, .movsx64From32 .r10 .r1] = true := by
  decide

/-- R32: R10 as the destination. -/
theorem test_wf_alu32_writes_r10 :
    illFormed
      [.add32K .r10 1, .add32X .r10 .r1, .sub32K .r10 1, .sub32X .r10 .r1, .mul32K .r10 1, .mul32X .r10 .r1,
       .div32K .r10 1, .div32X .r10 .r1, .sdiv32K .r10 1, .sdiv32X .r10 .r1, .or32K .r10 1, .or32X .r10 .r1,
       .and32K .r10 1, .and32X .r10 .r1, .lsh32K .r10 1, .lsh32X .r10 .r1, .rsh32K .r10 1, .rsh32X .r10 .r1,
       .mod32K .r10 1, .mod32X .r10 .r1, .smod32K .r10 1, .smod32X .r10 .r1, .xor32K .r10 1, .xor32X .r10 .r1,
       .mov32K .r10 1, .mov32X .r10 .r1, .arsh32K .r10 1, .arsh32X .r10 .r1, .neg32 .r10, .movsx32From8 .r10 .r1,
       .movsx32From16 .r10 .r1] = true := by
  decide

/-- R32: R10 as the destination. -/
theorem test_wf_byteswap_writes_r10 :
    illFormed
      [.le16 .r10, .le32 .r10, .le64 .r10, .be16 .r10, .be32 .r10, .be64 .r10, .bswap16 .r10, .bswap32 .r10,
       .bswap64 .r10] = true := by
  decide

/-- R32: R10 as the destination. -/
theorem test_wf_load_writes_r10 :
    illFormed
      [.ldxb .r10 .r1 0, .ldxh .r10 .r1 0, .ldxw .r10 .r1 0, .ldxdw .r10 .r1 0, .ldxsb .r10 .r1 0, .ldxsh .r10 .r1 0,
       .ldxsw .r10 .r1 0] = true := by
  decide

/-- R32: R10 as the destination. -/
theorem test_wf_wide_writes_r10 :
    illFormed
      [.lddw .r10 1 2, .ldMapFd .r10 1, .ldMapValFd .r10 1 2, .ldVarAddr .r10 1, .ldCodeAddr .r10 1, .ldMapIdx .r10 1,
       .ldMapValIdx .r10 1 2] = true := by
  decide

/-- R32: R10 as the register that takes the old value. -/
theorem test_wf_fetch_writes_r10 :
    illFormed
      [.atomicFetchAdd32 .r1 .r10 0, .atomicFetchOr32 .r1 .r10 0, .atomicFetchAnd32 .r1 .r10 0,
       .atomicFetchXor32 .r1 .r10 0, .atomicXchg32 .r1 .r10 0, .atomicFetchAdd64 .r1 .r10 0,
       .atomicFetchOr64 .r1 .r10 0, .atomicFetchAnd64 .r1 .r10 0, .atomicFetchXor64 .r1 .r10 0,
       .atomicXchg64 .r1 .r10 0] = true := by
  decide

/-- R10 may stand where a register is only read (R32). -/
theorem test_wf_r10_read :
    wellFormed
      [.atomicAdd32 .r1 .r10 0, .atomicOr32 .r1 .r10 0, .atomicAnd32 .r1 .r10 0, .atomicXor32 .r1 .r10 0,
       .atomicCmpxchg32 .r1 .r10 0, .atomicAdd64 .r1 .r10 0, .atomicOr64 .r1 .r10 0, .atomicAnd64 .r1 .r10 0,
       .atomicXor64 .r1 .r10 0, .atomicCmpxchg64 .r1 .r10 0, .stxdw .r10 .r10 0xfff8, .mov64X .r1 .r10,
       .jeq64X .r10 .r10 0, .ldxdw .r1 .r10 0xfff8, .exit] = true := by
  decide

/-- R391: the field that does not hold the displacement is 0. -/
theorem test_wf_call_local :
    Instr.wf .offset (.callLocal 2 1) = false ∧ Instr.wf .imm (.callLocal 2 1) = false ∧
      Instr.wf .offset (.callLocal 0 1) = false ∧ Instr.wf .imm (.callLocal 2 0) = false ∧
      Instr.wf .offset (.callLocal 2 0) = true ∧ Instr.wf .imm (.callLocal 0 2) = true := by
  decide

/-- R391: the decoder's two readings of the same bytes, and a row that is illegal under both (V219, V220, V228). -/
theorem test_decode_call_local :
    readBy .little .imm [0x8510000002000000] = some (.callLocal 0 2) ∧
      readBy .little .offset [0x8510000002000000] = none ∧ readBy .little .imm [0x8510020000000000] = none ∧
      readBy .little .imm [0x8510020002000000] = none := by
  decide

/-- The name of the decoder's refusal. -/
def refusal (slots : List Nat) : Option Illegal :=
  match decode .little .offset (slots.map bytesOf) with
  | .ok _ => none
  | .error why => some why

/-- R150 to R154: each refusal has its name. -/
theorem test_refusals_by_name :
    refusal [] = some .noSlot ∧ refusal [0x8d00000001000000] = some .undefinedOpcode ∧
      refusal [0x070b000001000000] = some .noSuchRegister ∧ refusal [0x070a000001000000] = some .framePointerWritten ∧
      refusal [0x9501000000000000] = some .dstNotZero ∧ refusal [0x0711000001000000] = some .srcNotZero ∧
      refusal [0x6201000001000000] = none ∧ refusal [0x8701010000000000] = some .offsetNotZero ∧
      refusal [0x0f21000005000000] = some .immNotZero ∧ refusal [0x3701020003000000] = some .offsetSelector ∧
      refusal [0x8530000001000000] = some .srcSelector ∧ refusal [0xdb210000e0000000] = some .immSelector ∧
      refusal [0x1801000001000000] = some .noSecondSlot ∧
      refusal [0x1801000001000000, 0x0000010000000000] = some .secondSlotNotZero ∧
      refusal [0x1811000005000000, 0x0000000001000000] = some .nextImmNotZero := by
  decide
/-! ### Parameters with something of everything -/

/-- Regions of every mark, one at the top of the address space, tables with one entry or more, and no strict
alignment. -/
def params : Config :=
  { Config.default with
    regions :=
      [⟨0x2000, 0x100, true, true, false⟩, ⟨0x3000, 0x100, true, false, false⟩, ⟨0x4000, 0x100, false, true, false⟩,
       ⟨0x5000, 0x100, true, true, true⟩, ⟨0xfffffffffffffff0, 16, true, true, false⟩]
    helpers :=
      [(7, ⟨2, [⟨[0x28, 2], [], .result 0x2a []⟩, ⟨[0, 0], [], .failure⟩,
        ⟨[0x2000, 1], [], .result 5 [(0x2000, 0xaa), (0x2001, 0xcc), (0x2000, 0xbb)]⟩]⟩),
       (9, ⟨5, []⟩),
       (11, ⟨1, [⟨[0x2000], [(0x2000, 8), (0x2001, 7)], .result 15 [(0x2002, 15)]⟩, ⟨[0x2000], [], .failure⟩]⟩)]
    btfHelpers := [(12345, ⟨0, [⟨[], [], .result 1 []⟩]⟩), (6, ⟨0, [⟨[], [], .failure⟩]⟩), (10, ⟨0, []⟩)]
    mapByFd := [(5, 0x4000), (6, 0x9999)]
    mapByIdx := [(0, 0x4000), (1, 0x9999)]
    mapVal := [(0x4000, 0x5000)]
    varAddr := [(3, 0x2080)]
    codeAddr := [((0, 3), 0xc0de)] }

/-- A running machine with the parameters `c`, at pc 0, with registers and bytes given. -/
def machineIn (c : Config) (regs : List (Reg × Word)) (area : Nat × List Byte) : State :=
  regs.foldl (fun s r => s.writeReg r.1 r.2) { State.launch c [] [] ⟨[]⟩ with mem := Memory.setAll ⟨[]⟩ area.1 area.2 }

/-- The machine most witnesses use: R5 to R9 are unwritten. -/
def wit : State :=
  machineIn params
    [(.r0, 8), (.r1, 0x2000), (.r2, 0x8000000000000000), (.r3, 0xffffffffffffffff), (.r4, 0)]
    (0x2000, [8, 7, 6, 5, 4, 3, 2, 1])

/-- The fault an outcome takes, if it takes one. -/
def faultOf : Result → Option FaultInfo
  | .next t =>
    match t.status with
    | .faulted k => some k
    | _ => none
  | _ => none

/-- What an outcome's next state holds at a field. -/
def after {α : Type} (r : Result) (f : State → α) : Option α :=
  match r with
  | .next t => some (f t)
  | _ => none

/-! ### Calls, exit and wide loads -/

/-- V215, V216, V217: a helper call, an unwritten argument, an identifier outside the table. -/
theorem test_call_helper :
    after (exec (.callHelper 7) (machineIn params [(.r1, 0x28), (.r2, 2), (.r3, 9), (.r6, 5)] (0, [])))
        (fun t => (t.regs.r0, t.regs.r1, t.regs.r3, t.regs.r6, t.pc)) = some (some 0x2a, none, none, some 5, 1) ∧
      faultOf (exec (.callHelper 7) (machineIn params [(.r1, 0x28)] (0, []))) = some (.unwrittenRegister 0 .r2) ∧
      faultOf (exec (.callHelper 8) wit) = some (.unknownHelper 0 8 .helpers) := by
  decide

/-- V218: a helper by BTF ID; R395: a helper that fails raises `HelperFault` and changes nothing. -/
theorem test_call_btf :
    after (exec (.callBtf 12345) wit) (fun t => (t.regs.r0, t.regs.r1, t.pc)) = some (some 1, none, 1) ∧
      faultOf (exec (.callBtf 12346) wit) = some (.unknownHelper 0 12346 .btfHelpers) ∧
      after (exec (.callBtf 6) wit) id = some (wit.raise (.helperFault 0 6)) := by
  decide

/-- R395, D18: a helper that is a function of its argument and of the bytes it points to. -/
theorem test_helper_reads_memory :
    after (exec (.callHelper 11) wit) (fun t => (t.regs.r0, t.mem.byte? 0x2002)) = some (some 15, some 15) ∧
      faultOf (exec (.callHelper 11) { wit with mem := wit.mem.set 0x2001 9 }) = some (.helperFault 0 11) := by
  decide

/-- V219, V220: a local call under both values of `LOCAL_CALL_DISP`. -/
theorem test_call_local :
    after (exec (.callLocal 2 0) { machineIn params [(.r1, 7), (.r6, 5)] (0, []) with pc := 3 })
        (fun t => ([t.regs.r1, t.regs.r6, t.regs.r10], t.pc, t.frames)) =
      some ([some 7, none, some 0xfe00], 6, [⟨4, some 5, none, none, none, 0x10000⟩]) ∧
    after (exec (.callLocal 0 2)
          { machineIn { params with localCallDisp := .imm } [(.r1, 7), (.r6, 5)] (0, []) with pc := 3 })
        (fun t => ([t.regs.r1, t.regs.r6, t.regs.r10], t.pc, t.frames)) =
      some ([some 7, none, some 0xfe00], 6, [⟨4, some 5, none, none, none, 0x10000⟩]) := by
  decide

/-- V221: no local call at `MAX_CALL_DEPTH` = 1. -/
theorem test_call_depth :
    faultOf (exec (.callLocal 0xffff 0) (machineIn { params with maxCallDepth := 1 } [] (0, []))) =
      some (.callDepthExceeded 0) := by
  decide

/-- A callee about to return, as in V222. -/
def callee : State :=
  let s := machineIn params [(.r0, 8), (.r1, 1), (.r6, 0x63)] (0, [])
  { s with pc := 7, frames := [⟨4, some 5, none, none, none, 0x10000⟩], regs := { s.regs with r10 := 0xfe00 } }

/-- V222, V223, V224: a return, the end of a run, and an exit with nothing in R0. -/
theorem test_exit :
    after (exec .exit callee) (fun t => ([t.regs.r0, t.regs.r1, t.regs.r6, t.regs.r10], t.pc, t.frames)) =
      some ([some 8, none, some 5, some 0x10000], 4, []) ∧
    after (exec .exit { callee with frames := [] }) (fun t => (t.status, t.pc)) = some (.exited 8, 7) ∧
    faultOf (exec .exit (machineIn params [(.r1, 0x2a)] (0, []))) = some (.unwrittenRegister 0 .r0) := by
  decide

/-- V305 to V307: the 64-bit immediate, as bit patterns. -/
theorem test_lddw :
    after (exec (.lddw .r1 0x55667788 0x11223344) wit) (fun t => (t.regs.r1, t.pc)) =
      some (some 0x1122334455667788, 2) ∧
    after (exec (.lddw .r1 0x80000000 0) wit) (fun t => t.regs.r1) = some (some 0x80000000) ∧
    after (exec (.lddw .r0 0xffffffff 0xffffffff) wit) (fun t => t.regs.r0) = some (some 0xffffffffffffffff) := by
  decide

/-- `wit` with the map value of V309 and V312. -/
def witMaps : State := { wit with cfg := { params with mapVal := [(0x4000, 0x2000)] } }

/-- V308 to V313: the addresses of the platform. -/
theorem test_references :
    after (exec (.ldMapFd .r1 5) wit) (fun t => (t.regs.r1, t.pc)) = some (some 0x4000, 2) ∧
    after (exec (.ldMapValFd .r1 5 16) witMaps) (fun t => (t.regs.r1, t.pc)) = some (some 0x2010, 2) ∧
    after (exec (.ldVarAddr .r2 3) wit) (fun t => (t.regs.r2, t.pc)) = some (some 0x2080, 2) ∧
    after (exec (.ldCodeAddr .r1 3) wit) (fun t => (t.regs.r1, t.pc)) = some (some 0xc0de, 2) ∧
    after (exec (.ldMapIdx .r1 0) wit) (fun t => (t.regs.r1, t.pc)) = some (some 0x4000, 2) ∧
    after (exec (.ldMapValIdx .r1 0 4) witMaps) (fun t => (t.regs.r1, t.pc)) = some (some 0x2004, 2) := by
  decide

/-- R519: each of the six where the platform gives no address, the map without a value among them. -/
theorem test_unresolved :
    faultOf (exec (.ldMapFd .r1 4) wit) = some (.unresolvedReference 0 .mapFd 4) ∧
    faultOf (exec (.ldMapValFd .r1 6 0) wit) = some (.unresolvedReference 0 .mapValFd 6) ∧
    faultOf (exec (.ldVarAddr .r1 4) wit) = some (.unresolvedReference 0 .varAddr 4) ∧
    faultOf (exec (.ldCodeAddr .r1 3) { wit with pc := 1 }) = some (.unresolvedReference 1 .codeAddr 3) ∧
    faultOf (exec (.ldMapIdx .r1 2) wit) = some (.unresolvedReference 0 .mapIdx 2) ∧
    faultOf (exec (.ldMapValIdx .r1 1 0) wit) = some (.unresolvedReference 0 .mapValIdx 1) := by
  decide

/-! ### Faults of memory accesses -/

/-- V254 to V259: the reasons, and that registers are read first. -/
theorem test_memory_faults :
    faultOf (exec (.ldxw .r1 .r2 0) (machineIn Config.default [(.r2, 0x20fe)] (0, []))) =
      some (.memoryFault 0 0x20fe .w .read .notMapped) ∧
    faultOf (exec (.ldxb .r1 .r4 0xffff) (machineIn Config.default [(.r4, 0)] (0, []))) =
      some (.memoryFault 0 0xffffffffffffffff .b .read .notMapped) ∧
    faultOf (exec (.ldxdw .r1 .r4 0xffff) wit) = some (.memoryFault 0 0xffffffffffffffff .dw .read .wraps) ∧
    faultOf (exec (.stxdw .r10 .r1 0) wit) = some (.memoryFault 0 0x10000 .dw .write .notMapped) ∧
    faultOf (exec (.stxdw .r5 .r6 0) wit) = some (.unwrittenRegister 0 .r5) ∧
    faultOf (exec (.stw .r1 0x1000 1) wit) = some (.memoryFault 0 0x3000 .w .write .noPermission) := by
  decide

/-- R79, R516: an atomic access is always aligned, a plain one under `ALIGN_STRICT`; an atomic access needs both
permissions. -/
theorem test_alignment_and_permission :
    faultOf (exec (.atomicAdd32 .r1 .r4 2) wit) = some (.memoryFault 0 0x2002 .w .atomic .misaligned) ∧
    faultOf (exec (.stxh .r1 .r4 1) { wit with cfg := { params with alignStrict := true } }) =
      some (.memoryFault 0 0x2001 .h .write .misaligned) ∧
    after (exec (.stxh .r1 .r4 1) wit) (fun t => t.pc) = some 1 ∧
    faultOf (exec (.atomicAdd64 .r1 .r4 0x2000) wit) = some (.memoryFault 0 0x4000 .dw .atomic .noPermission) ∧
    faultOf (exec (.atomicAdd64 .r1 .r4 0x1000) wit) = some (.memoryFault 0 0x3000 .dw .atomic .noPermission) := by
  decide

/-- `47_atomic.md` R459, R469: no match, and the 4-byte comparison uses the low half of R0 alone. -/
theorem test_compare_exchange :
    after (exec (.atomicCmpxchg64 .r1 .r4 0) wit) (fun t => (t.regs.r0, t.mem)) =
      some (some 0x0102030405060708, wit.mem) ∧
    after (exec (.atomicCmpxchg32 .r1 .r4 0) (wit.writeReg .r0 0xdeadbeef05060708))
        (fun t => (t.regs.r0, t.mem.byte? 0x2000, t.mem.byte? 0x2003, t.mem.byte? 0x2004)) =
      some (some 0x05060708, some 0, some 0, some 4) := by
  decide

/-! ### The launch -/

/-- R560: a launch takes the bytes given for a region, and none for the stack or for an address outside both. -/
theorem test_launch_memory :
    (State.launch params [] [] ⟨[(0x1fff, 1), (0x2000, 2), (0x20ff, 3), (0x2100, 4), (0xf000, 5), (0xffff, 6)]⟩).mem =
      ⟨[(0x2000, 2), (0x20ff, 3)]⟩ := by
  decide

/-- R570: parameters that meet it, a sixth entry argument (4), overlapping regions (3), a stack that starts below address 0
and a stack size that is no multiple of 8 (2). -/
theorem test_launch_obligations :
    launchOk params [1, 2, 3, 4, 5] = true ∧ launchOk params [1, 2, 3, 4, 5, 6] = false ∧
      launchOk { params with regions := ⟨0x20ff, 1, true, true, false⟩ :: params.regions } [] = false ∧
      launchOk { params with maxCallDepth := 129 } [] = false ∧ launchOk { params with stackSize := 12 } [] = false := by
  decide

/-! ### Fetch and step -/

/-- A program at a pc, run for one step by `step`. -/
def running (slots : List Nat) (pc : Int) (s : State) : State := { s with prog := slots.map bytesOf, pc := pc }

/-- V330 to V332: the end of the program is a fault. -/
theorem test_fetch :
    faultOf (step State.reset) = some (.pcOutOfRange 0) ∧
    after (step (running [0xb700000000000000] 0 wit)) (fun t => (t.regs.r0, t.pc)) = some (some 0, 1) ∧
    faultOf (step (running [0xb700000000000000] 1 wit)) = some (.pcOutOfRange 1) ∧
    faultOf (step (running [0xb700000000000000] (-1) wit)) = some (.pcOutOfRange (-1)) ∧
    faultOf (step (running [0x0500000000000000, 0x9500000000000000] 1 (machineIn params [] (0, [])))) =
      some (.unwrittenRegister 1 .r0) := by
  decide

/-- V333, V314, R511: decode comes before the registers, and W2 is recorded for opcode 0x18 with a second slot. -/
theorem test_illegal_words :
    faultOf (step (running [0x0f21000005000000] 0 (machineIn params [] (0, [])))) =
      some (.illegalInstruction 0 0x000000050000210f none) ∧
    faultOf (step (running [0x1801000001000000, 0x0700000000000000] 0 wit)) =
      some (.illegalInstruction 0 0x0000000100000118 (some 7)) ∧
    faultOf (step (running [0x1801000001000000] 0 wit)) = some (.illegalInstruction 0 0x0000000100000118 none) := by
  decide

/-- V324, R500: the legacy rows are illegal, with the word of the slot. -/
theorem test_legacy :
    faultOf (step (running [0x200000000e000000] 0 wit)) = some (.illegalInstruction 0 0x0000000e00000020 none) ∧
    faultOf (step (running [0x58f1ffff04000000] 0 wit)) = some (.illegalInstruction 0 0x00000004fffff158 none) := by
  decide

/-- R42: an execution that is over takes no step. -/
theorem test_finished :
    (match step { wit with status := .exited 1 } with | .fault .alreadyExited => true | _ => false) = true ∧
    (match step (wit.raise (.pcOutOfRange 0)) with | .fault .alreadyFaulted => true | _ => false) = true := by
  decide

/-- The host's two questions on the words of V1 and V305: the decoder's answer, and the first step after reset. -/
theorem test_table_word :
    decodeTableWord 64 0x1122334400000107 = some (.add64K .r1 0x11223344) ∧
    decodeTableWord 128 (0x5566778800000118 + 0x1122334400000000 * 2 ^ 64) =
      some (.lddw .r1 0x55667788 0x11223344) ∧
    after (step (State.reset.withFetchWord 64 0x1122334400000107)) (fun t => (t.regs.r1, t.pc)) =
      some (some 0x11223344, 1) ∧
    after (step (State.reset.withFetchWord 128 (0x5566778800000118 + 0x1122334400000000 * 2 ^ 64)))
      (fun t => (t.regs.r1, t.pc)) = some (some 0x1122334455667788, 2) := by
  decide

/-- R302: in big-endian, data and encoding turn around together. -/
theorem test_big_step :
    after (step { running [0x6112000000000000] 0 wit with cfg := { params with endian := .big }
                                                          regs := wit.regs.put .r2 (some 0x2000) })
      (fun t => t.regs.r1) = some (some 0x08070605) := by
  decide

/-! ### Witnesses: a concrete state and operands that meet all the hypotheses of a statement together -/

open Sys2Proof.Claims

/-- O1: written operands, the most negative number, -1, 0 and R10 among them. -/
theorem witness_Alu64Results :
    wit.regs.get .r2 = some 0x8000000000000000 ∧ wit.regs.get .r3 = some 0xffffffffffffffff ∧
      wit.regs.get .r4 = some 0 ∧ wit.regs.get .r10 = some 0x10000 := by
  decide

/-- O1 where its clauses meet: -2^63 by -1, division and modulo by 0, a shift by 64, R10 as the destination. -/
theorem witness_Alu64Results_corners :
    exec (.sdiv64X .r2 .r3) wit = .next (wrote wit .r2 0x8000000000000000 1) ∧
      exec (.smod64X .r2 .r3) wit = .next (wrote wit .r2 0 1) ∧
      exec (.div64X .r3 .r4) wit = .next (wrote wit .r3 0 1) ∧
      exec (.mod64X .r3 .r4) wit = .next (wrote wit .r3 0xffffffffffffffff 1) ∧
      exec (.lsh64K .r3 64) wit = .next (wrote wit .r3 0xffffffffffffffff 1) ∧
      exec (.arsh64K .r2 63) wit = .next (wrote wit .r2 0xffffffffffffffff 1) ∧
      exec (.add64K .r10 1) wit = .next (jumped wit 1) :=
  ⟨rfl, rfl, rfl, rfl, rfl, rfl, rfl⟩

/-- O2: a written operand for `NEG64`, a written source and an unwritten destination for the moves. -/
theorem witness_Move64Results :
    wit.regs.get .r2 = some 0x8000000000000000 ∧ wit.regs.get .r3 = some 0xffffffffffffffff ∧
      wit.regs.get .r5 = none := by
  decide

/-- O2 at the edges of its clauses. -/
theorem witness_Move64Results_corners :
    exec (.neg64 .r2) wit = .next (wrote wit .r2 0x8000000000000000 1) ∧
      exec (.mov64K .r5 0x80000000) wit = .next (wrote wit .r5 0xffffffff80000000 1) ∧
      exec (.mov64X .r5 .r10) wit = .next (wrote wit .r5 0x10000 1) ∧
      exec (.movsx64From8 .r5 .r3) wit = .next (wrote wit .r5 0xffffffffffffffff 1) ∧
      exec (.movsx64From16 .r5 .r2) wit = .next (wrote wit .r5 0 1) ∧
      exec (.movsx64From32 .r5 .r3) wit = .next (wrote wit .r5 0xffffffffffffffff 1) :=
  ⟨rfl, rfl, rfl, rfl, rfl, rfl⟩

/-- A machine whose registers have upper halves that a 32-bit operation must not see. -/
def wit32 : State :=
  machineIn params
    [(.r1, 0xdeadbeef80000000), (.r2, 0x12345678ffffffff), (.r3, 0xffffffff00000000), (.r4, 0x8000000000000021)]
    (0, [])

/-- O3: written operands whose low halves are the most negative number, -1 and 0. -/
theorem witness_Alu32Results :
    wit32.regs.get .r1 = some 0xdeadbeef80000000 ∧ wit32.regs.get .r2 = some 0x12345678ffffffff ∧
      wit32.regs.get .r3 = some 0xffffffff00000000 ∧ wit32.regs.get .r10 = some 0x10000 := by
  decide

/-- O3 where its clauses meet: -2^31 by -1, division and modulo by a zero low half, a shift by 33. -/
theorem witness_Alu32Results_corners :
    exec (.sdiv32X .r1 .r2) wit32 = .next (wrote wit32 .r1 0x80000000 1) ∧
      exec (.smod32X .r1 .r2) wit32 = .next (wrote wit32 .r1 0 1) ∧
      exec (.div32X .r2 .r3) wit32 = .next (wrote wit32 .r2 0 1) ∧
      exec (.mod32X .r2 .r3) wit32 = .next (wrote wit32 .r2 0xffffffff 1) ∧
      exec (.lsh32X .r2 .r4) wit32 = .next (wrote wit32 .r2 0xfffffffe 1) ∧
      exec (.arsh32K .r1 31) wit32 = .next (wrote wit32 .r1 0xffffffff 1) :=
  ⟨rfl, rfl, rfl, rfl, rfl, rfl⟩

/-- O4: written operands. -/
theorem witness_Move32Results :
    wit32.regs.get .r1 = some 0xdeadbeef80000000 ∧ wit32.regs.get .r2 = some 0x12345678ffffffff ∧
      exec (.neg32 .r1) wit32 = .next (wrote wit32 .r1 0x80000000 1) ∧
      exec (.mov32K .r5 0x80000000) wit32 = .next (wrote wit32 .r5 0x80000000 1) ∧
      exec (.mov32X .r5 .r2) wit32 = .next (wrote wit32 .r5 0xffffffff 1) ∧
      exec (.movsx32From8 .r5 .r2) wit32 = .next (wrote wit32 .r5 0xffffffff 1) ∧
      exec (.movsx32From16 .r5 .r1) wit32 = .next (wrote wit32 .r5 0 1) :=
  ⟨rfl, rfl, rfl, rfl, rfl, rfl, rfl⟩

/-- The registers of `wit32` with other upper halves. -/
def otherUpperHalves : RegFile :=
  { wit32.regs with r1 := some 0x80000000, r2 := some 0xffffffff, r3 := some 0x7700000000, r4 := some 0x21
                    r10 := 0x500010000 }

/-- O5: `ADD32_X` on two register files that agree on the low halves only. -/
theorem witness_UpperHalvesDoNotMatter :
    isAlu32 (.add32X .r1 .r2) = true ∧ sameLowHalves wit32.regs otherUpperHalves ∧ wit32.regs ≠ otherUpperHalves ∧
      Reg.number .r1 = (Instr.add32X .r1 .r2).fields.dst ∧
      ∃ t u, exec (.add32X .r1 .r2) wit32 = .next t ∧
        exec (.add32X .r1 .r2) { wit32 with regs := otherUpperHalves } = .next u ∧ isFault t.status = false :=
  ⟨rfl, fun r => by cases r <;> decide, by decide, rfl, _, _, rfl, rfl, rfl⟩

/-- O6: -2^63 and -1, and -2^63 and 8: both quotients are written. -/
theorem witness_SignedDivisionIdentity :
    wit.regs.get .r2 = some 0x8000000000000000 ∧ wit.regs.get .r3 = some 0xffffffffffffffff ∧
      wit.regs.get .r0 = some 8 ∧ (0xffffffffffffffff : Word) ≠ 0 ∧ (8 : Word) ≠ 0 := by
  decide

/-- O7: arithmetic with written operands in both classes, and a source register that holds 0. -/
theorem witness_ArithmeticNeverFaults :
    isArithmetic (.div64X .r2 .r4) = true ∧ isArithmetic (.le16 .r2) = true ∧
      firstUnwritten wit (readsOf (.div64X .r2 .r4)) = none ∧ firstUnwritten wit (readsOf (.le16 .r2)) = none ∧
      wit.regs.get .r2 = some 0x8000000000000000 ∧ wit.regs.get .r4 = some 0 := by
  decide

/-- O8: a written operand in both byte orders. -/
theorem witness_ByteSwapResults :
    wit.cfg.endian = .little ∧ wit.regs.get .r2 = some 0x8000000000000000 ∧
      exec (.be64 .r2) wit = .next (wrote wit .r2 0x80 1) ∧
      exec (.be64 .r2) { wit with cfg := { params with endian := .big } } =
        .next (wrote { wit with cfg := { params with endian := .big } } .r2 0x8000000000000000 1) ∧
      exec (.bswap16 .r3) wit = .next (wrote wit .r3 0xffff 1) :=
  ⟨rfl, rfl, rfl, rfl, rfl⟩

/-- O9: both outcomes of a comparison, at equality and at the sign boundary. -/
theorem witness_Jump64Results :
    exec (.jsge64X .r2 .r2 0x8000) wit = .next (jumped wit (-32767)) ∧
      exec (.jsgt64X .r2 .r3 0x7fff) wit = .next (jumped wit 1) ∧
      exec (.jslt64X .r2 .r3 0x7fff) wit = .next (jumped wit 32768) ∧
      exec (.jgt64K .r2 5 0xffffffff) wit = .next (jumped wit 1) ∧
      exec (.jset64K .r2 5 0x80000000) wit = .next (jumped wit 6) ∧
      exec (.jset64X .r3 .r4 5) wit = .next (jumped wit 1) :=
  ⟨rfl, rfl, rfl, rfl, rfl, rfl⟩

/-- O10: both outcomes of a comparison of low halves. -/
theorem witness_Jump32Results :
    exec (.jeq32K .r3 5 0) wit32 = .next (jumped wit32 6) ∧
      exec (.jsgt32X .r1 .r2 5) wit32 = .next (jumped wit32 1) ∧
      exec (.jslt32X .r1 .r2 0xffff) wit32 = .next (jumped wit32 0) ∧
      exec (.jset32K .r2 5 0x80000000) wit32 = .next (jumped wit32 6) :=
  ⟨rfl, rfl, rfl, rfl⟩

/-- O11: a written register, and the extreme displacements. -/
theorem witness_UnconditionalJumps :
    wit.regs.get .r2 = some 0x8000000000000000 ∧ exec (.ja 0x8000) wit = .next (jumped wit (-32767)) ∧
      exec (.ja32 0x7fffffff) wit = .next (jumped wit 2147483648) :=
  ⟨rfl, rfl, rfl⟩

/-- O12, instructions that call no helper: the destination, the source and R0 as the first unwritten register, and
none. -/
theorem witness_UnwrittenReads :
    helperOf (.add64X .r5 .r6) = none ∧ firstUnwritten wit (readsOf (.add64X .r5 .r6)) = some .r5 ∧
      firstUnwritten wit (readsOf (.stxdw .r1 .r6 0)) = some .r6 ∧
      firstUnwritten wit32 (readsOf (.atomicCmpxchg64 .r1 .r2 0)) = some .r0 ∧
      firstUnwritten wit (readsOf (.add64X .r1 .r2)) = none ∧ wit.status = .running ∧
      ∃ t, exec (.add64X .r5 .r6) wit = .next t ∧ t.status = .faulted (.unwrittenRegister 0 .r5) :=
  ⟨rfl, by decide, by decide, by decide, by decide, rfl, _, rfl, rfl⟩

/-- O12, helper calls: a helper of arity 5 with the fifth argument unwritten, and one of arity 0. -/
theorem witness_UnwrittenReads_helper :
    helperOf (.callHelper 9) = some (.helpers, 9) ∧ wit.cfg.helpers.lookup 9 = some ⟨5, []⟩ ∧
      firstUnwritten wit (callReads 5) = some .r5 ∧
      helperOf (.callBtf 12345) = some (.btfHelpers, 12345) ∧
      wit.cfg.btfHelpers.lookup 12345 = some ⟨0, [⟨[], [], .result 1 []⟩]⟩ ∧ firstUnwritten wit (callReads 0) = none ∧
      ∃ t, exec (.callHelper 9) wit = .next t ∧ t.status = .faulted (.unwrittenRegister 0 .r5) :=
  ⟨rfl, by decide, by decide, rfl, by decide, by decide, _, rfl, rfl⟩

/-- A caller of helper 7 with arguments of which the launch knows the answer and three writes. -/
def caller : State := machineIn params [(.r1, 0x2000), (.r2, 1), (.r6, 6)] (0x2000, [8, 7])

/-- O13: a helper with two arguments that writes one byte twice, one with none, and one whose case asks for bytes of
memory. -/
theorem witness_HelperCallResults :
    helperOf (.callHelper 7) = some (.helpers, 7) ∧
      (∃ h, caller.cfg.helpers.lookup 7 = some h ∧ argsOf caller h.arity.val = some [0x2000, 1] ∧
        h.known.find? (caseHolds caller [0x2000, 1]) =
          some ⟨[0x2000, 1], [], .result 5 [(0x2000, 0xaa), (0x2001, 0xcc), (0x2000, 0xbb)]⟩) ∧
      helperOf (.callBtf 12345) = some (.btfHelpers, 12345) ∧
      (∃ h, caller.cfg.btfHelpers.lookup 12345 = some h ∧ argsOf caller h.arity.val = some [] ∧
        h.known.find? (caseHolds caller []) = some ⟨[], [], .result 1 []⟩) ∧
      (∃ h, wit.cfg.helpers.lookup 11 = some h ∧ argsOf wit h.arity.val = some [0x2000] ∧
        h.known.find? (caseHolds wit [0x2000]) =
          some ⟨[0x2000], [(0x2000, 8), (0x2001, 7)], .result 15 [(0x2002, 15)]⟩) ∧
      after (exec (.callHelper 7) caller) (fun t => [t.mem.byte? 0x2000, t.mem.byte? 0x2001]) =
        some [some 0xbb, some 0xcc] :=
  ⟨rfl, ⟨_, rfl, by decide, by decide⟩, rfl, ⟨_, rfl, by decide, by decide⟩, ⟨_, rfl, by decide, by decide⟩, by decide⟩

/-- O14: a helper whose answer the launch knows, one that fails, and one whose answer is a free value. -/
theorem witness_HelperCallPreserves :
    helperOf (.callHelper 7) = some (.helpers, 7) ∧
      (∃ h, caller.cfg.helpers.lookup 7 = some h ∧ argsOf caller h.arity.val = some [0x2000, 1]) ∧
      helperOf (.callBtf 6) = some (.btfHelpers, 6) ∧ helperOf (.callBtf 10) = some (.btfHelpers, 10) ∧
      (∃ h, caller.cfg.btfHelpers.lookup 6 = some h ∧ argsOf caller h.arity.val = some []) ∧
      (∃ h, caller.cfg.btfHelpers.lookup 10 = some h ∧ argsOf caller h.arity.val = some []) :=
  ⟨rfl, ⟨_, rfl, by decide⟩, rfl, rfl, ⟨_, rfl, by decide⟩, ⟨_, rfl, by decide⟩⟩

/-- O15: identifiers outside both tables, with every argument register unwritten, and the fault that follows. -/
theorem witness_UnknownHelperFirst :
    callee.cfg.helpers.lookup 8 = none ∧ callee.cfg.btfHelpers.lookup 8 = none ∧ callee.status = .running ∧
      (∃ t, exec (.callHelper 8) callee = .next t ∧ t.status = .faulted (.unknownHelper 7 8 .helpers)) ∧
      ∃ t, exec (.callBtf 8) callee = .next t ∧ t.status = .faulted (.unknownHelper 7 8 .btfHelpers) :=
  ⟨by decide, by decide, rfl, ⟨_, rfl, rfl⟩, ⟨_, rfl, rfl⟩⟩

/-- O16: a known helper with its second argument unwritten, and one that fails on written arguments. -/
theorem witness_HelperArgumentsThenFailure :
    helperOf (.callHelper 7) = some (.helpers, 7) ∧
      (∃ h, callee.cfg.helpers.lookup 7 = some h ∧ firstUnwritten callee (callReads h.arity.val) = some .r2) ∧
      (∃ h, wit.cfg.helpers.lookup 7 = some h ∧
        argsOf (machineIn params [(.r1, 0), (.r2, 0)] (0, [])) h.arity.val = some [0, 0] ∧
        h.known.find? (caseHolds (machineIn params [(.r1, 0), (.r2, 0)] (0, [])) [0, 0]) = some ⟨[0, 0], [], .failure⟩) ∧
      ∃ h, wit.cfg.btfHelpers.lookup 6 = some h ∧ argsOf wit h.arity.val = some [] ∧
        h.known.find? (caseHolds wit []) = some ⟨[], [], .failure⟩ :=
  ⟨rfl, ⟨_, rfl, by decide⟩, ⟨_, rfl, by decide, by decide⟩, ⟨_, rfl, by decide, by decide⟩⟩

/-- A machine with two activations of at most two. -/
def deep : State := { callee with cfg := { params with maxCallDepth := 2 } }

/-- O17: below the limit by one, under both values of `LOCAL_CALL_DISP`. -/
theorem witness_LocalCallResult :
    ({ deep with frames := [] } : State).frames.length + 1 < deep.cfg.maxCallDepth ∧
      callDistance params 0x8000 0 = -32768 ∧
      callDistance { params with localCallDisp := .imm } 0 0x80000000 = -2147483648 := by
  decide

/-- O18: at the limit, the fault itself, and a call that completes at the last depth. -/
theorem witness_CallDepthLimit :
    deep.cfg.maxCallDepth ≤ deep.frames.length + 1 ∧ deep.status = .running ∧
      (∃ t, exec (.callLocal 1 0) deep = .next t ∧ t.status = .faulted (.callDepthExceeded 7)) ∧
      ∃ t, exec (.callLocal 1 0) { deep with frames := [] } = .next t ∧ t.status = .running ∧ t.frames.length = 1 :=
  ⟨by decide, rfl, ⟨_, rfl, rfl⟩, ⟨_, rfl, rfl, rfl⟩⟩

/-- O19: the entry activation and a callee, with R0 written. -/
theorem witness_ExitResults :
    callee.regs.r0 = some 8 ∧ callee.frames = [⟨4, some 5, none, none, none, 0x10000⟩] ∧
      wit.regs.r0 = some 8 ∧ wit.frames = [] := by
  decide

/-- O20: a call, and a callee that has changed R6, R10, memory and the arguments before it returns. -/
theorem witness_CallThenReturn :
    wit.status = .running ∧
      ∃ t, exec (.callLocal 2 0) wit = .next t ∧ t.status = .running ∧
        ({ callee with frames := t.frames } : State).frames = t.frames ∧
        ({ callee with frames := t.frames } : State).regs.r0 = some 8 :=
  ⟨rfl, _, rfl, rfl, rfl, rfl⟩

/-- O21: admitted and refused accesses of each kind at the ends of a region, of the stack and of the address space. -/
theorem witness_AdmissionExact :
    admitted params 0x20f8 .dw .read = true ∧ admitted params 0x20f9 .dw .read = false ∧
      admitted params 0xf000 .b .write = true ∧ admitted params 0xefff .b .write = false ∧
      admitted params 0xfffffffffffffff8 .dw .atomic = true ∧
      admitted params 0xfffffffffffffff9 .dw .atomic = false ∧
      admitted params 0x3000 .w .read = true ∧ admitted params 0x3000 .w .write = false := by
  decide

/-- O21, instructions: a load from the null page is refused. -/
theorem witness_AdmissionExact_exec :
    accessOf (.ldxw .r1 .r4 0) = some (.r4, 0, .w, .read) ∧ firstUnwritten wit (readsOf (.ldxw .r1 .r4 0)) = none ∧
      wit.regs.get .r4 = some 0 ∧ admitted wit.cfg (address 0 0) .w .read = false := by
  decide

/-- O22: each of the four reasons at an address where it is the first that applies. -/
theorem witness_MemoryFaultReasons :
    accessOf (.atomicAdd64 .r4 .r2 0xfffc) = some (.r4, 0xfffc, .dw, .atomic) ∧
      firstUnwritten wit (readsOf (.atomicAdd64 .r4 .r2 0xfffc)) = none ∧ wit.regs.get .r4 = some 0 ∧
      deniedBecause params (address 0 0xfffc) .dw .atomic .wraps = true ∧
      deniedBecause params (address 0 0x2004) .dw .atomic .misaligned = true ∧
      deniedBecause params (address 0 0x2100) .dw .atomic .notMapped = true ∧
      deniedBecause params (address 0 0x3000) .dw .atomic .noPermission = true ∧
      ∃ t, exec (.atomicAdd64 .r4 .r2 0xfffc) wit = .next t ∧
        t.status = .faulted (.memoryFault 0 0xfffffffffffffffc .dw .atomic .wraps) :=
  ⟨by decide, by decide, by decide, by decide, by decide, by decide, by decide, _, rfl, rfl⟩

/-- O23: admitted reads of every width, at the last byte of a region and in a shared region. -/
theorem witness_LoadResults :
    wit.regs.get .r1 = some 0x2000 ∧ admitted wit.cfg (address 0x2000 0xff) .b .read = true ∧
      admitted wit.cfg (address 0x2000 0xfe) .h .read = true ∧ admitted wit.cfg (address 0x2000 0xfc) .w .read = true ∧
      admitted wit.cfg (address 0x2000 0xf8) .dw .read = true ∧
      admitted wit.cfg (address 0x2000 0x3000) .dw .read = true := by
  decide

/-- O24: admitted writes of every width, with a source register. -/
theorem witness_StoreResults :
    wit.regs.get .r1 = some 0x2000 ∧ wit.regs.get .r3 = some 0xffffffffffffffff ∧
      admitted wit.cfg (address 0x2000 0xff) .b .write = true ∧ admitted wit.cfg (address 0x2000 0xfe) .h .write = true ∧
      admitted wit.cfg (address 0x2000 0xfc) .w .write = true ∧
      admitted wit.cfg (address 0x2000 0xf8) .dw .write = true := by
  decide

/-- O25: admitted atomic accesses of both widths. -/
theorem witness_AtomicResults :
    wit.regs.get .r1 = some 0x2000 ∧ wit.regs.get .r3 = some 0xffffffffffffffff ∧
      admitted wit.cfg (address 0x2000 4) .w .atomic = true ∧ admitted wit.cfg (address 0x2000 0) .dw .atomic = true := by
  decide

/-- O26: a match and a mismatch. -/
theorem witness_CompareExchangeResults :
    wit.regs.get .r1 = some 0x2000 ∧ wit.regs.get .r3 = some 0xffffffffffffffff ∧ wit.regs.get .r0 = some 8 ∧
      admitted wit.cfg (address 0x2000 0) .w .atomic = true ∧ admitted wit.cfg (address 0x2000 0) .dw .atomic = true ∧
      readValue wit (address 0x2000 0) .w ≠ 8 ∧
      readValue (wit.writeReg .r0 0xdeadbeef05060708) (address 0x2000 0) .w = 0xdeadbeef05060708 % 2 ^ 32 := by
  decide

/-- O27: unshared bytes that allow both kinds, at the last bytes of a region. -/
theorem witness_StoreThenLoadReturnsValue :
    wit.regs.get .r1 = some 0x2000 ∧ wit.regs.get .r3 = some 0xffffffffffffffff ∧
      admitted wit.cfg (address 0x2000 0xf8) .dw .write = true ∧
      admitted wit.cfg (address 0x2000 0xf8) .dw .read = true ∧
      (∀ k, k < 8 → unshared wit.cfg ((address 0x2000 0xf8).toNat + k) = true) ∧
      admitted wit.cfg (address 0x2000 0xff) .b .write = true ∧
      admitted wit.cfg (address 0x2000 0xff) .b .read = true := by
  decide

/-- O28: the source register of R78 and unshared bytes, in both byte orders. -/
theorem witness_MixedWidthsSeeTheSameBytes :
    (wit.writeReg .r3 0x1122334455667788).regs.get .r1 = some 0x2000 ∧
      (wit.writeReg .r3 0x1122334455667788).regs.get .r3 = some 0x1122334455667788 ∧ wit.cfg.endian = .little ∧
      ∀ c ∈ [params, { params with endian := .big }],
        admitted c (address 0x2000 0) .dw .write = true ∧ admitted c (address 0x2000 0) .dw .read = true ∧
          ∀ k, k < 8 → unshared c ((address 0x2000 0).toNat + k) = true := by
  decide

/-- O29: the statement has no hypothesis; the sign bit of either half. -/
theorem witness_WideImmediate :
    exec (.lddw .r5 0x80000000 0x80000000) wit = .next (wrote wit .r5 0x8000000080000000 2) :=
  rfl

/-- O30: an address and none, for each of the six, and a map without a value. -/
theorem witness_PlatformReferences :
    wit.cfg.mapByFd.lookup 5 = some 0x4000 ∧ wit.cfg.mapByFd.lookup 7 = none ∧
      wit.cfg.mapByIdx.lookup 0 = some 0x4000 ∧ wit.cfg.mapByIdx.lookup 7 = none ∧
      wit.cfg.mapVal.lookup 0x4000 = some 0x5000 ∧ wit.cfg.mapByFd.lookup 6 = some 0x9999 ∧
      wit.cfg.mapByIdx.lookup 1 = some 0x9999 ∧ wit.cfg.mapVal.lookup 0x9999 = none ∧
      wit.cfg.varAddr.lookup 3 = some 0x2080 ∧ wit.cfg.varAddr.lookup 4 = none ∧
      wit.cfg.codeAddr.lookup (wit.pc, 3) = some 0xc0de ∧ wit.cfg.codeAddr.lookup (wit.pc, 4) = none := by
  decide

/-- O31: slots of both rows at pc. -/
theorem witness_LegacyAlwaysIllegal :
    (∃ rest, (running [0x58f1ffff04000000] 0 wit).prog.drop 0 = bytesOf 0x58f1ffff04000000 :: rest) ∧
      (bytesOf 0x58f1ffff04000000).b0 &&& 0xe7 = 0x40 ∧ (bytesOf 0x200000000e000000).b0 &&& 0xe7 = 0x20 ∧
      (running [0x58f1ffff04000000] 0 wit).status = .running ∧ 0 ≤ (running [0x58f1ffff04000000] 0 wit).pc :=
  ⟨⟨_, rfl⟩, by decide, by decide, rfl, by decide⟩

/-- O32: an instruction that completes and a register it does not name; a return and R0. -/
theorem witness_RegisterFrame :
    Reg.r3 ∉ writesOf (.add64X .r1 .r2) ∧ Reg.r0 ∉ writesOf .exit ∧ Reg.r1 ∉ writesOf (.callLocal 2 0) ∧
      (∃ t, exec (.add64X .r1 .r2) wit = .next t) ∧ (∃ t, exec .exit callee = .next t) ∧
      ∃ t, exec (.callLocal 2 0) wit = .next t :=
  ⟨by decide, by decide, by decide, ⟨_, rfl⟩, ⟨_, rfl⟩, ⟨_, rfl⟩⟩

/-- O33: a store and the bytes next to its own on both sides; a load and a byte it reads. -/
theorem witness_MemoryFrame :
    helperOf (.stxw .r1 .r3 4) = none ∧ accessOf (.stxw .r1 .r3 4) = some (.r1, 4, .w, .write) ∧
      wit.regs.get .r1 = some 0x2000 ∧ 0x2003 < (address 0x2000 4).toNat ∧
      (address 0x2000 4).toNat + sizeBytes .w ≤ 0x2008 ∧
      accessOf (.ldxw .r5 .r1 4) = some (.r1, 4, .w, .read) ∧ (∃ t, exec (.stxw .r1 .r3 4) wit = .next t) ∧
      ∃ t, exec (.ldxw .r5 .r1 4) wit = .next t :=
  ⟨rfl, rfl, by decide, by decide, by decide, rfl, ⟨_, rfl⟩, ⟨_, rfl⟩⟩

/-- O34: a step of each of the three kinds. -/
theorem witness_CallStackDiscipline :
    (∃ t, step (running [0xb700000000000000] 0 wit) = .next t ∧ t.frames = wit.frames) ∧
      (∃ t, step (running [0x8510020000000000] 0 wit) = .next t ∧ t.frames.length = 1) ∧
      ∃ t, step (running [0x9500000000000000] 0 callee) = .next t ∧ t.frames = [] :=
  ⟨⟨_, rfl, rfl⟩, ⟨_, rfl, rfl⟩, ⟨_, rfl, rfl⟩⟩

/-- O35: an instruction that advances, one that jumps and one that faults. -/
theorem witness_ProgramCounterAdvance :
    wit.status = .running ∧ (∃ t, exec (.lddw .r1 0 0) wit = .next t ∧ isFault t.status = false ∧ t.pc = 2) ∧
      (∃ t, exec (.ja 0x8000) wit = .next t ∧ isFault t.status = false ∧ t.pc = -32767) ∧
      ∃ t, exec (.add64X .r5 .r1) wit = .next t ∧ isFault t.status = true ∧ t.pc = 0 :=
  ⟨rfl, ⟨_, rfl, rfl, rfl⟩, ⟨_, rfl, rfl, rfl⟩, ⟨_, rfl, rfl, rfl⟩⟩

/-- O36: a step that stores. -/
theorem witness_ParametersNeverChange :
    ∃ t, step (running [0x7b31000000000000] 0 wit) = .next t ∧ t.mem ≠ wit.mem :=
  ⟨_, rfl, by decide⟩

/-- O37: a step that faults. -/
theorem witness_FaultsArePrecise :
    (running [0x7b31200100000000] 0 wit).status = .running ∧
      ∃ t, step (running [0x7b31200100000000] 0 wit) = .next t ∧
        t.status = .faulted (.memoryFault 0 0x2120 .dw .write .notMapped) :=
  ⟨rfl, _, rfl, rfl⟩

/-- O38: `State.reset` is running. -/
theorem witness_EveryRunningStateSteps : State.reset.status = .running := rfl

/-- O39: a status of each kind. -/
theorem witness_FinishedNeverSteps :
    ({ wit with status := .exited 1 } : State).status = .exited 1 ∧
      (wit.raise (.pcOutOfRange 0)).status = .faulted (.pcOutOfRange 0) :=
  ⟨rfl, rfl⟩

/-- O40: a step that ends an execution well. -/
theorem witness_ExitIsTheOnlyGoodEnd :
    (running [0x9500000000000000] 0 wit).status = .running ∧
      ∃ t, step (running [0x9500000000000000] 0 wit) = .next t ∧ t.status = .exited 8 :=
  ⟨rfl, _, rfl, rfl⟩

/-- O41: a wide instruction in the last two slots of the program. -/
theorem witness_StepRunsDecodedInstruction :
    let s := running [0x0500000000000000, 0x1801000088776655, 0x0000000044332211] 1 wit
    s.status = .running ∧ 0 ≤ s.pc ∧
      decode s.cfg.endian s.cfg.localCallDisp (s.prog.drop s.pc.toNat) = .ok (.lddw .r1 0x55667788 0x11223344) :=
  ⟨rfl, by decide, rfl⟩

/-- O42: pc just below 0 and just at the end of the program, and the fault. -/
theorem witness_FetchOutOfRange :
    (running [0xb700000000000000] (-1) wit).pc < 0 ∧
      ((running [0xb700000000000000] 1 wit).prog.length : Int) ≤ (running [0xb700000000000000] 1 wit).pc ∧
      wit.status = .running ∧
      ∃ t, step (running [0xb700000000000000] 1 wit) = .next t ∧ t.status = .faulted (.pcOutOfRange 1) :=
  ⟨by decide, by decide, rfl, _, rfl, rfl⟩

/-- O43: opcode 0x18 with and without a second slot, and another opcode. -/
theorem witness_IllegalSlotsFault :
    decode .little .offset [bytesOf 0x1801000001000000, bytesOf 0x0700000000000000] = .error .secondSlotNotZero ∧
      decode .little .offset [bytesOf 0x1801000001000000] = .error .noSecondSlot ∧
      decode .little .offset [bytesOf 0x8d00000001000000] = .error .undefinedOpcode ∧
      (running [0x8d00000001000000] 0 wit).prog.drop 0 = [bytesOf 0x8d00000001000000] ∧
      wit.status = .running ∧ wit.cfg.endian = .little ∧ wit.cfg.localCallDisp = .offset :=
  ⟨rfl, rfl, rfl, rfl, rfl, rfl, rfl⟩

/-- O44: each of the three forms of an ill-formed wide instruction. -/
theorem witness_IllFormedWideRefused :
    (bytesOf 0x1801000001000000).b0 = 0x18 ∧ (bytesOf 0x0700000000000000).b0 ≠ 0 ∧
      (bytesOf 0x0000010000000000).b2 ≠ 0 ∧ ((bytesOf 0x1811000005000000).fields .little).src ∈ [1, 3, 4, 5] ∧
      ((bytesOf 0x0000000001000000).fields .little).imm ≠ 0 ∧ wit.status = .running ∧ 0 ≤ wit.pc := by
  decide

/-- O45: a defined, a legacy and an undefined opcode. -/
theorem witness_DefinedOpcodesExactly :
    (0xdb : Nat) ∈ definedOpcodes ∧ (0x58 : Nat) ∈ legacyOpcodes ∧ (0x8d : Nat) ∉ definedOpcodes ++ legacyOpcodes := by
  decide

/-- O47: well-formed instructions with fields at their extremes. -/
theorem witness_DecodeEncodeRoundTrip :
    Instr.wf .offset (.callLocal 0x8000 0) = true ∧ Instr.wf .imm (.callLocal 0 0x80000000) = true ∧
      Instr.wf .offset (.lddw .r9 0xffffffff 0xffffffff) = true ∧
      Instr.wf .offset (.ldInd .dw 15 15 0xffff 0xffffffff) = true := by
  decide

/-- O48: slots that decode, of both lengths. -/
theorem witness_EncodeDecodeRoundTrip :
    decode .little .offset [bytesOf 0x58f1ffff04000000] = .ok (.ldInd .dw 1 15 0xffff 4) ∧
      decode .big .offset [bytesOf 0x1810000055667788, bytesOf 0x0000000011223344] =
        .ok (.lddw .r1 0x55667788 0x11223344) :=
  ⟨rfl, rfl⟩

/-- O49: states that satisfy the invariant and step by a store, a call and a return. -/
theorem witness_InvariantKeptByEveryStep :
    (running [0x7b31000000000000] 0 wit).inv = true ∧ (∃ t, step (running [0x7b31000000000000] 0 wit) = .next t) ∧
      (running [0x8510020000000000] 0 wit).inv = true ∧ (∃ t, step (running [0x8510020000000000] 0 wit) = .next t) ∧
      (running [0x9500000000000000] 0 callee).inv = true ∧
      ∃ t, step (running [0x9500000000000000] 0 callee) = .next t :=
  ⟨by decide, ⟨_, rfl⟩, by decide, ⟨_, rfl⟩, by decide, ⟨_, rfl⟩⟩

/-- O50: canonical memory and the least `MAX_CALL_DEPTH`. -/
theorem witness_InvariantAtLaunch :
    wit.mem.wf = true ∧ (1 : Nat) ≤ ({ params with maxCallDepth := 1 } : Config).maxCallDepth := by
  decide

/-- O51: a launch that meets R570, a callee, and the first and last bytes of its frame. -/
theorem witness_CurrentFrameIsAccessible :
    launchOk callee.cfg [] = true ∧ callee.inv = true ∧ callee.regs.r10.toNat - callee.cfg.stackSize ≤ (0xfc00 : Word).toNat ∧
      (0xfdf8 : Word).toNat + sizeBytes .dw ≤ callee.regs.r10.toNat ∧ (0xfdf8 : Word).toNat % sizeBytes .dw = 0 := by
  decide

/-- O52: five arguments and none, and addresses of a region, of the stack and of neither. -/
theorem witness_LaunchState :
    ([0, 0, 0, 0, 0] : List Word).length ≤ 5 ∧ ([] : List Word).length ≤ 5 ∧ insideStack params 0xf000 1 = true ∧
      insideStack params 0xefff 1 = false ∧ params.regions.any (fun g => insideRegion g 0x20ff 1) = true ∧
      params.regions.any (fun g => insideRegion g 0x2100 1) = false := by
  decide

/-- O53: memories in canonical form, and one that is not. -/
theorem witness_CanonicalMemory :
    wit.mem.wf = true ∧ (⟨[]⟩ : Memory).wf = true ∧ (⟨[(2 ^ 64 - 1, 0)]⟩ : Memory).wf = true ∧
      (⟨[(5, 0), (5, 1)]⟩ : Memory).wf = false ∧ (⟨[(2 ^ 64, 0)]⟩ : Memory).wf = false := by
  decide

/-- O54: R0 next to R1, and R10. -/
theorem witness_RegisterFileUpdates :
    Reg.r0 ≠ .r10 ∧ Reg.r1 ≠ .r0 ∧ (wit.regs.put .r0 none).r0 = none ∧ (wit.regs.put .r10 none) = wit.regs := by
  decide

/-- O55: an address that wraps to 0, a negative displacement, an admitted and a refused access. -/
theorem witness_EffectiveAddressFormula :
    address 0xffffffffffffffff 1 = 0 ∧ address 0 0x8000 = 0xffffffffffff8000 ∧
      accessOf (.ldxw .r5 .r1 0) = some (.r1, 0, .w, .read) ∧ firstUnwritten wit (readsOf (.ldxw .r5 .r1 0)) = none ∧
      wit.regs.get .r1 = some 0x2000 ∧ admitted wit.cfg (address 0x2000 0) .w .read = true ∧
      deniedBecause wit.cfg (address 0x2000 0xfd) .w .read .notMapped = true ∧
      Reg.r1 ∉ writesOf (.ldxw .r5 .r1 0) := by
  decide

/-- O56: fields with a register number 11, a written R10 and a fetched R10, and a term that writes R10. -/
theorem witness_FramePointerIsReadOnly :
    (0x07 : BitVec 8).toNat ∉ legacyOpcodes ∧ 11 ≤ (11 : BitVec 4).toNat ∧ (0x07 : BitVec 8).toNat % 8 ∈ [1, 4, 7] ∧
      (0xdb : BitVec 8).toNat ∉ legacyOpcodes ∧ (0xe1 : BitVec 32).toNat ∈ [0x01, 0x41, 0x51, 0xa1, 0xe1] ∧
      Instr.wf .offset (.callLocal 2 0) = true ∧ Reg.r10 ∈ writesOf (.callLocal 2 0) ∧
      Instr.wf .offset .exit = true ∧ Reg.r10 ∈ writesOf .exit := by
  decide

/-- O56, the forms: each list is as long as the spec's tables make it, and names other registers than R10. -/
theorem witness_FramePointerIsReadOnly_forms :
    [arithmeticForms.length, loadForms.length, immediateForms.length, readBothForms.length, fetchForms.length] =
      [33, 7, 26, 36, 10] ∧ Reg.r9 ≠ .r10 := by
  decide

/-- O58: for each clause, the first and the last byte it is about. -/
theorem witness_BytesSeenByReads :
    unshared params 0x2000 = true ∧ wit.mem.byte? 0x2000 = some 8 ∧ insideStack params 0xf000 1 = true ∧
      insideStack params 0xffff 1 = true ∧ wit.mem.byte? 0xf000 = none ∧ unshared params 0x20ff = true ∧
      insideStack params 0x20ff 1 = false ∧ wit.mem.byte? 0x20ff = none ∧ unshared params 0x5000 = false ∧
      unshared params 0x50ff = false ∧ unshared params 0x5100 = true := by
  decide

/-- O59: a load and an unlisted byte of a private region, a store and the bytes beside it, a written stack byte. -/
theorem witness_PrivateBytesChangeOnlyByOwnWrites :
    helperOf (.ldxw .r5 .r1 0xfc) = none ∧ (∃ t, exec (.ldxw .r5 .r1 0xfc) wit = .next t) ∧
      accessOf (.ldxw .r5 .r1 0xfc) = some (.r1, 0xfc, .w, .read) ∧ unshared params 0x20ff = true ∧
      insideStack params 0x20ff 1 = false ∧ accessOf (.stxw .r1 .r3 4) = some (.r1, 4, .w, .write) ∧
      (∃ t, exec (.stxw .r1 .r3 4) wit = .next t) ∧ 0x2003 < (address 0x2000 4).toNat ∧
      (machineIn params [] (0xffff, [1])).mem.byte? 0xffff ≠ none ∧ unshared params 0xffff = true :=
  ⟨rfl, ⟨_, rfl⟩, rfl, by decide, by decide, rfl, ⟨_, rfl⟩, by decide, by decide, by decide⟩

/-- O60: a map whose region the launch marks private, at its first and last byte. -/
theorem witness_MapValuesAreShared :
    witMaps.cfg.mapVal.lookup 0x4000 = some 0x2000 ∧
      (⟨0x2000, 0x100, true, true, false⟩ : Region) ∈ witMaps.cfg.regions ∧
      insideRegion ⟨0x2000, 0x100, true, true, false⟩ 0x2000 1 = true ∧
      insideRegion ⟨0x2000, 0x100, true, true, false⟩ 0x20ff 1 = true ∧ insideStack witMaps.cfg 0x20ff 1 = false := by
  decide

end Sys2Proof.Tests
end

section
/-! PROOFS. The family of `10_state.md`: what an instruction can answer, said once over all of `exec` (registers, pc,
memory, call stack and status), and from it the register frame (O32) and the program counter (O35); that a finished
execution never steps (O39). -/

namespace Sys2Proof.Claims

open Sys2Proof.Machine

/-! ### What an instruction can answer -/

/-- What a completed instruction other than a helper call leaves in memory: what was there, or one value stored at the
admitted address of its own store or atomic access (`20_memory.md` R71, R72, R75). -/
def MemoryAfter (i : Instr) (s : State) (m : Memory) : Prop :=
  m = s.mem ∨
    ∃ base offset n kind b v, accessOf i = some (base, offset, n, kind) ∧ kind ≠ .read ∧
      s.regs.get base = some b ∧ denial s.cfg (effectiveAddress b offset) n kind = none ∧
      m = s.stored (effectiveAddress b offset) n v

/-- The ways an instruction can complete, with the next state of each. -/
inductive Completed : Instr → State → State → Prop
  /-- One register is written and pc goes on to the next instruction. -/
  | wrote {i s r n} (v : Word) {m : Memory} (draws : Nat) (hw : writesOf i = [r]) (hp : nextPcs s i = [s.pc + n])
      (hm : MemoryAfter i s m) :
      Completed i s { s with regs := s.regs.put r (some v), pc := s.pc + n, mem := m, draws := draws }
  /-- No register is written and pc goes on to the next slot: the stores and the atomics without a result. -/
  | kept {i s} {m : Memory} (draws : Nat) (hp : nextPcs s i = [s.pc + 1]) (hm : MemoryAfter i s m) :
      Completed i s { s with pc := s.pc + 1, mem := m, draws := draws }
  /-- A jump, taken or not. -/
  | jumped {i s} {p : Int} (hp : p ∈ nextPcs s i) : Completed i s (s.goto p)
  /-- A helper function answered. -/
  | helped {i s call} (r : Word) (ws : List (Word × Byte)) (hi : helperOf i = some call) :
      Completed i s (s.afterHelper r ws)
  /-- A program-local call entered its callee. -/
  | entered {s} (offset : BitVec 16) (imm : BitVec 32) (hd : s.frames.length + 1 < s.cfg.maxCallDepth) :
      Completed (.callLocal offset imm) s (s.enter (callDisplacement s.cfg offset imm))
  /-- A callee returned. -/
  | left {s f rest v} (hr : s.regs.r0 = some v) (hf : s.frames = f :: rest) : Completed .exit s (s.leave f rest)
  /-- The entry activation ended. -/
  | finished {s v} (hr : s.regs.r0 = some v) (hf : s.frames = []) : Completed .exit s (s.finish v)

/-- An instruction whose rule can only complete as `Completed` says either does so or takes a fault. -/
theorem attempt_outcome {i : Instr} {s t : State} {r : Except FaultInfo State} (h : s.attempt r = .next t)
    (hok : ∀ u, r = .ok u → Completed i s u) : Completed i s t ∨ ∃ k, t = s.raise k := by
  obtain hr | ⟨k, -, ht⟩ := State.attempt_next h
  · exact .inl (hok _ hr)
  · exact .inr ⟨k, ht⟩

section Families

/-! ### How the rule of each family completes -/

variable {i : Instr} {s t : State} {dst src : Reg} {offset : BitVec 16} {imm : BitVec 32}

/-- Writing a register and going on is a completion that leaves memory alone. -/
theorem completed_write {n : Int} (v : Word) (hw : writesOf i = [dst]) (hp : nextPcs s i = [s.pc + n]) :
    Completed i s ((s.writeReg dst v).advance n) :=
  .wrote v s.draws hw hp (.inl rfl)

/-- A rule that computes one value, of a register or of the platform, and writes a register from it. -/
theorem completed_write_one {α : Type} {x : Except FaultInfo α} {f : α → Word} {n : Int} (hw : writesOf i = [dst])
    (hp : nextPcs s i = [s.pc + n]) (h : (x >>= fun a => .ok ((s.writeReg dst (f a)).advance n)) = .ok t) :
    Completed i s t := by
  obtain ⟨a, -, ht⟩ := bind_ok h
  cases ht
  exact completed_write _ hw hp

/-- A rule that reads two operands and writes a register from them. -/
theorem completed_write_two {α β : Type} {x : Except FaultInfo α} {y : Except FaultInfo β} {f : α → β → Word}
    {n : Int} (hw : writesOf i = [dst]) (hp : nextPcs s i = [s.pc + n])
    (h : (x >>= fun a => y >>= fun b => .ok ((s.writeReg dst (f a b)).advance n)) = .ok t) : Completed i s t := by
  obtain ⟨a, -, h⟩ := bind_ok h
  exact completed_write_one hw hp h

/-- Both outcomes of a conditional jump are among its next pcs (`43_jump64.md` R320). -/
theorem completed_branch (taken : Bool) (hp : nextPcs s i = [s.pc + 1 + offset.toInt, s.pc + 1]) :
    Completed i s (s.branch offset taken) := by
  cases taken
  case false => exact .jumped (by simp [hp])
  case true => exact .jumped (by simp [hp, jumpTarget])

/-- A conditional jump with `BPF_K`, of either width. -/
theorem completed_branch_one {α : Type} {x : Except FaultInfo α} {c : α → Bool}
    (hp : nextPcs s i = [s.pc + 1 + offset.toInt, s.pc + 1])
    (h : (x >>= fun a => .ok (s.branch offset (c a))) = .ok t) : Completed i s t := by
  obtain ⟨a, -, ht⟩ := bind_ok h
  cases ht
  exact completed_branch _ hp

/-- A conditional jump with `BPF_X`, of either width. -/
theorem completed_branch_two {α β : Type} {x : Except FaultInfo α} {y : Except FaultInfo β} {c : α → β → Bool}
    (hp : nextPcs s i = [s.pc + 1 + offset.toInt, s.pc + 1])
    (h : (x >>= fun a => y >>= fun b => .ok (s.branch offset (c a b))) = .ok t) : Completed i s t := by
  obtain ⟨a, -, h⟩ := bind_ok h
  exact completed_branch_one hp h

theorem completed_callHelper {tb : HelperTable} (hi : helperOf i = some (tb, imm)) (h : s.callHelper tb imm = .ok t) :
    Completed i s t := by
  obtain ⟨_, _, r, ws, -, -, -, rfl⟩ := State.callHelper_ok h
  exact .helped r ws hi

theorem completed_callLocal (h : s.callLocal (callDisplacement s.cfg offset imm) = .ok t) :
    Completed (.callLocal offset imm) s t := by
  obtain ⟨hd, rfl⟩ := State.callLocal_ok h
  exact .entered offset imm hd

theorem completed_exit (h : s.leaveOrFinish = .ok t) : Completed .exit s t := by
  obtain ⟨v, hr, ⟨hf, rfl⟩ | ⟨f, rest, hf, rfl⟩⟩ := State.leaveOrFinish_ok h
  · exact .finished hr hf
  · exact .left hr hf

theorem completed_load {n : MemSize} {f : Word → Word} (hw : writesOf i = [dst]) (hp : nextPcs s i = [s.pc + 1])
    (h : s.load dst src offset n f = .ok t) : Completed i s t := by
  obtain ⟨_, -, -, rfl⟩ := State.load_ok h
  exact .wrote _ (s.draws + 1) hw hp (.inl rfl)

theorem completed_storeImm {n : MemSize} (ha : accessOf i = some (dst, offset, n, .write))
    (hp : nextPcs s i = [s.pc + 1]) (h : s.storeImm dst offset imm n = .ok t) : Completed i s t := by
  obtain ⟨b, hb, hd, rfl⟩ := State.storeImm_ok h
  exact .kept s.draws hp (.inr ⟨dst, offset, n, .write, b, _, ha, nofun, hb, hd, rfl⟩)

theorem completed_storeReg {n : MemSize} (ha : accessOf i = some (dst, offset, n, .write))
    (hp : nextPcs s i = [s.pc + 1]) (h : s.storeReg dst src offset n = .ok t) : Completed i s t := by
  obtain ⟨b, v, hb, -, hd, rfl⟩ := State.storeReg_ok h
  exact .kept s.draws hp (.inr ⟨dst, offset, n, .write, b, v, ha, nofun, hb, hd, rfl⟩)

/-- The atomic event of a completing instruction changes memory as `MemoryAfter` says, and draws one free value. -/
theorem atomicEvent_memoryAfter {n : MemSize} {b : Word} {f : Word → Option Word} {p : Word × State}
    (ha : accessOf i = some (dst, offset, n, .atomic)) (hb : s.readReg dst = .ok b)
    (h : s.atomicEvent (effectiveAddress b offset) n f = .ok p) :
    ∃ m, MemoryAfter i s m ∧ p.2 = { s with mem := m, draws := s.draws + 1 } := by
  obtain ⟨hd, -, ⟨new, -, ht⟩ | ⟨-, ht⟩⟩ := State.atomicEvent_ok h
  · exact ⟨_, .inr ⟨dst, offset, n, .atomic, b, new, ha, nofun, State.readReg_ok hb, hd, rfl⟩, ht⟩
  · exact ⟨_, .inl rfl, ht⟩

/-- An atomic operation that returns nothing, of either width. -/
theorem completed_atomicKeep {n : MemSize} {f : Word → Word → Option Word}
    (ha : accessOf i = some (dst, offset, n, .atomic)) (hp : nextPcs s i = [s.pc + 1])
    (h : (s.readReg dst >>= fun b => s.readReg src >>= fun v =>
      s.atomicEvent (effectiveAddress b offset) n (f v) >>= fun p => .ok (p.2.advance 1)) = .ok t) :
    Completed i s t := by
  obtain ⟨b, hb, h⟩ := bind_ok h
  obtain ⟨v, -, h⟩ := bind_ok h
  obtain ⟨⟨old, u⟩, he, ht⟩ := bind_ok h
  obtain ⟨m, hm, rfl⟩ := atomicEvent_memoryAfter ha hb he
  cases ht
  exact .kept (s.draws + 1) hp hm

/-- The end of an atomic operation that returns the old value in a register. -/
theorem completed_event {n : MemSize} {r : Reg} {b : Word} {f : Word → Option Word} {g : Word × State → Word}
    (hw : writesOf i = [r]) (ha : accessOf i = some (dst, offset, n, .atomic)) (hp : nextPcs s i = [s.pc + 1])
    (hb : s.readReg dst = .ok b)
    (h : (s.atomicEvent (effectiveAddress b offset) n f >>= fun p => .ok ((p.2.writeReg r (g p)).advance 1)) =
      .ok t) : Completed i s t := by
  obtain ⟨⟨old, u⟩, he, ht⟩ := bind_ok h
  obtain ⟨m, hm, rfl⟩ := atomicEvent_memoryAfter ha hb he
  cases ht
  exact .wrote _ (s.draws + 1) hw hp hm

/-- An atomic operation that returns the old value in its source register, of either width. -/
theorem completed_atomicFetch {n : MemSize} {f : Word → Word → Option Word} {g : Word × State → Word}
    (hw : writesOf i = [src]) (ha : accessOf i = some (dst, offset, n, .atomic)) (hp : nextPcs s i = [s.pc + 1])
    (h : (s.readReg dst >>= fun b => s.readReg src >>= fun v =>
      s.atomicEvent (effectiveAddress b offset) n (f v) >>= fun p => .ok ((p.2.writeReg src (g p)).advance 1)) =
        .ok t) : Completed i s t := by
  obtain ⟨b, hb, h⟩ := bind_ok h
  obtain ⟨v, -, h⟩ := bind_ok h
  exact completed_event hw ha hp hb h

/-- Compare and exchange, of either width: R0 is read before the event and takes the old value. -/
theorem completed_atomicCompare {n : MemSize} {f : Word → Word → Word → Option Word} {g : Word × State → Word}
    (hw : writesOf i = [.r0]) (ha : accessOf i = some (dst, offset, n, .atomic)) (hp : nextPcs s i = [s.pc + 1])
    (h : (s.readReg dst >>= fun b => s.readReg src >>= fun v => s.readReg .r0 >>= fun e =>
      s.atomicEvent (effectiveAddress b offset) n (f v e) >>= fun p => .ok ((p.2.writeReg .r0 (g p)).advance 1)) =
        .ok t) : Completed i s t := by
  obtain ⟨b, hb, h⟩ := bind_ok h
  obtain ⟨v, -, h⟩ := bind_ok h
  obtain ⟨e, -, h⟩ := bind_ok h
  exact completed_event hw ha hp hb h

end Families

/-- Everything an instruction can answer: it completes, or it takes a fault on the state before it (R512). -/
theorem exec_outcome {i : Instr} {s t : State} (h : exec i s = .next t) : Completed i s t ∨ ∃ k, t = s.raise k := by
  cases i with
  | add64K _ _ | sub64K _ _ | mul64K _ _ | div64K _ _ | sdiv64K _ _ | or64K _ _ | and64K _ _ | lsh64K _ _
  | rsh64K _ _ | mod64K _ _ | smod64K _ _ | xor64K _ _ | arsh64K _ _ | mov64X _ _ | movsx64From8 _ _
  | movsx64From16 _ _ | movsx64From32 _ _ | mov32X _ _ | movsx32From8 _ _ | movsx32From16 _ _ | neg64 _
  | add32K _ _ | sub32K _ _ | mul32K _ _ | div32K _ _ | sdiv32K _ _ | or32K _ _ | and32K _ _ | lsh32K _ _
  | rsh32K _ _ | mod32K _ _ | smod32K _ _ | xor32K _ _ | arsh32K _ _ | neg32 _ | le16 _ | be16 _ | bswap16 _
  | le32 _ | be32 _ | bswap32 _ | le64 _ | be64 _ | bswap64 _ | ldMapFd _ _ | ldMapValFd _ _ _ | ldVarAddr _ _
  | ldCodeAddr _ _ | ldMapIdx _ _ | ldMapValIdx _ _ _ =>
    exact attempt_outcome h fun _ => completed_write_one rfl rfl
  | add64X _ _ | sub64X _ _ | mul64X _ _ | div64X _ _ | sdiv64X _ _ | or64X _ _ | and64X _ _ | lsh64X _ _
  | rsh64X _ _ | mod64X _ _ | smod64X _ _ | xor64X _ _ | arsh64X _ _ | add32X _ _ | sub32X _ _ | mul32X _ _
  | div32X _ _ | sdiv32X _ _ | or32X _ _ | and32X _ _ | lsh32X _ _ | rsh32X _ _ | mod32X _ _ | smod32X _ _
  | xor32X _ _ | arsh32X _ _ =>
    exact attempt_outcome h fun _ => completed_write_two rfl rfl
  | mov64K _ _ | mov32K _ _ | lddw _ _ _ =>
    obtain rfl := Host.Outcome.next.inj h
    exact .inl (completed_write _ rfl rfl)
  | ja _ | ja32 _ =>
    obtain rfl := Host.Outcome.next.inj h
    exact .inl (.jumped (List.mem_singleton_self _))
  | jeq64K _ _ _ | jgt64K _ _ _ | jge64K _ _ _ | jset64K _ _ _ | jne64K _ _ _ | jsgt64K _ _ _ | jsge64K _ _ _
  | jlt64K _ _ _ | jle64K _ _ _ | jslt64K _ _ _ | jsle64K _ _ _ | jeq32K _ _ _ | jgt32K _ _ _ | jge32K _ _ _
  | jset32K _ _ _ | jne32K _ _ _ | jsgt32K _ _ _ | jsge32K _ _ _ | jlt32K _ _ _ | jle32K _ _ _ | jslt32K _ _ _
  | jsle32K _ _ _ =>
    exact attempt_outcome h fun _ => completed_branch_one rfl
  | jeq64X _ _ _ | jgt64X _ _ _ | jge64X _ _ _ | jset64X _ _ _ | jne64X _ _ _ | jsgt64X _ _ _ | jsge64X _ _ _
  | jlt64X _ _ _ | jle64X _ _ _ | jslt64X _ _ _ | jsle64X _ _ _ | jeq32X _ _ _ | jgt32X _ _ _ | jge32X _ _ _
  | jset32X _ _ _ | jne32X _ _ _ | jsgt32X _ _ _ | jsge32X _ _ _ | jlt32X _ _ _ | jle32X _ _ _ | jslt32X _ _ _
  | jsle32X _ _ _ =>
    exact attempt_outcome h fun _ => completed_branch_two rfl
  | callHelper _ | callBtf _ =>
    exact attempt_outcome h fun _ => completed_callHelper rfl
  | callLocal _ _ =>
    exact attempt_outcome h fun _ => completed_callLocal
  | exit =>
    exact attempt_outcome h fun _ => completed_exit
  | ldxb _ _ _ | ldxh _ _ _ | ldxw _ _ _ | ldxdw _ _ _ | ldxsb _ _ _ | ldxsh _ _ _ | ldxsw _ _ _ =>
    exact attempt_outcome h fun _ => completed_load rfl rfl
  | stb _ _ _ | sth _ _ _ | stw _ _ _ | stdw _ _ _ =>
    exact attempt_outcome h fun _ => completed_storeImm rfl rfl
  | stxb _ _ _ | stxh _ _ _ | stxw _ _ _ | stxdw _ _ _ =>
    exact attempt_outcome h fun _ => completed_storeReg rfl rfl
  | atomicAdd32 _ _ _ | atomicOr32 _ _ _ | atomicAnd32 _ _ _ | atomicXor32 _ _ _ | atomicAdd64 _ _ _
  | atomicOr64 _ _ _ | atomicAnd64 _ _ _ | atomicXor64 _ _ _ =>
    exact attempt_outcome h fun _ => completed_atomicKeep rfl rfl
  | atomicFetchAdd32 _ _ _ | atomicFetchOr32 _ _ _ | atomicFetchAnd32 _ _ _ | atomicFetchXor32 _ _ _
  | atomicXchg32 _ _ _ | atomicFetchAdd64 _ _ _ | atomicFetchOr64 _ _ _ | atomicFetchAnd64 _ _ _
  | atomicFetchXor64 _ _ _ | atomicXchg64 _ _ _ =>
    exact attempt_outcome h fun _ => completed_atomicFetch rfl rfl rfl
  | atomicCmpxchg32 _ _ _ | atomicCmpxchg64 _ _ _ =>
    exact attempt_outcome h fun _ => completed_atomicCompare rfl rfl rfl
  | ldAbs _ _ _ _ _ | ldInd _ _ _ _ _ =>
    obtain rfl := Host.Outcome.next.inj h
    exact .inr ⟨_, rfl⟩

/-! ### Registers -/

theorem get_loseArgs_other (f : RegFile) {r : Reg} (h : r ∉ [Reg.r1, .r2, .r3, .r4, .r5]) :
    f.loseArgs.get r = f.get r := by
  cases r with
  | r0 | r6 | r7 | r8 | r9 | r10 => rfl
  | r1 | r2 | r3 | r4 | r5 => simp at h

theorem get_enter_other (s : State) (d : Int) {r : Reg} (h : r ∉ [Reg.r0, .r6, .r7, .r8, .r9, .r10]) :
    (s.enter d).regs.get r = s.regs.get r := by
  cases r with
  | r1 | r2 | r3 | r4 | r5 => rfl
  | r0 | r6 | r7 | r8 | r9 | r10 => simp at h

/-- A return keeps the result register and no other. -/
theorem get_leave_other (s : State) (f : Frame) (rest : List Frame) {r : Reg} (h : r ∉ writesOf .exit) :
    (s.leave f rest).regs.get r = s.regs.get r := by
  cases r with
  | r0 => rfl
  | r1 | r2 | r3 | r4 | r5 | r6 | r7 | r8 | r9 | r10 => simp [writesOf] at h

/-- Both helper calls write R0 to R5 and go on to the next slot. -/
theorem helper_writes_and_next {i : Instr} {call : HelperTable × BitVec 32} (s : State)
    (hi : helperOf i = some call) :
    writesOf i = [.r0, .r1, .r2, .r3, .r4, .r5] ∧ nextPcs s i = [s.pc + 1] := by
  unfold helperOf at hi
  split at hi
  · exact ⟨rfl, rfl⟩
  · exact ⟨rfl, rfl⟩
  · cases hi

/-- A completed instruction keeps every register it does not write (`10_state.md` R35). -/
theorem Completed.get_other {i : Instr} {s t : State} (h : Completed i s t) {r : Reg} (hr : r ∉ writesOf i) :
    t.regs.get r = s.regs.get r := by
  cases h with
  | wrote v draws hw _ _ => exact RegFile.get_put_other _ _ (by simpa [hw] using hr)
  | helped v ws hi =>
    obtain ⟨hw, -⟩ := helper_writes_and_next s hi
    rw [hw, List.mem_cons, not_or] at hr
    obtain ⟨h0, hargs⟩ := hr
    rw [State.afterHelper_regs, get_loseArgs_other _ hargs, RegFile.get_put_other _ _ h0]
  | entered offset imm _ => exact get_enter_other s _ hr
  | left _ _ => exact get_leave_other s _ _ hr
  | kept | jumped | finished => rfl

/-- Settles O32: a fault keeps the registers, and so does a completion outside its list of writes. -/
theorem registerFrame : Obligations.RegisterFrame := by
  intro i s t r h hr
  obtain hc | ⟨k, rfl⟩ := exec_outcome h
  · exact hc.get_other hr
  · rfl

/-! ### The program counter -/

/-- A program-local call goes to its target, by either reading of its displacement (`45_call_exit.md` R391). -/
theorem nextPcs_callLocal (s : State) (offset : BitVec 16) (imm : BitVec 32) :
    nextPcs s (.callLocal offset imm) = [jumpTarget s.pc (callDisplacement s.cfg offset imm)] := by
  delta nextPcs callDisplacement
  cases s.cfg.localCallDisp <;> rfl

theorem nextPcs_exit_of_nil {s : State} (hf : s.frames = []) : nextPcs s .exit = [s.pc] := by
  delta nextPcs
  simp only [hf]

theorem nextPcs_exit_of_cons {s : State} {f : Frame} {rest : List Frame} (hf : s.frames = f :: rest) :
    nextPcs s .exit = [f.ret] := by
  delta nextPcs
  simp only [hf]

/-- A completed instruction leaves pc where R37 says. -/
theorem Completed.pc_mem_nextPcs {i : Instr} {s t : State} (h : Completed i s t) : t.pc ∈ nextPcs s i := by
  cases h with
  | wrote _ _ _ hp _ => simp [hp]
  | kept _ hp _ => simp [hp]
  | jumped hp => exact hp
  | helped r ws hi => simp [(helper_writes_and_next s hi).2]
  | entered offset imm _ => simp [nextPcs_callLocal]
  | left _ hf => simp [nextPcs_exit_of_cons hf]
  | finished _ hf => simp [nextPcs_exit_of_nil hf]

/-- Completing is no fault: the status stays, or becomes `Exited`. -/
theorem Completed.not_fault {i : Instr} {s t : State} (h : Completed i s t) (hs : s.status = .running) :
    isFault t.status = false := by
  cases h with
  | finished => rfl
  | wrote | kept | jumped | helped | entered | left => simp [isFault, hs]

/-- Settles O35: a completion leaves pc where R37 says and is no fault; a fault keeps pc. -/
theorem programCounterAdvance : Obligations.ProgramCounterAdvance := by
  intro i s t hs h
  obtain hc | ⟨k, rfl⟩ := exec_outcome h
  · exact ⟨fun _ => hc.pc_mem_nextPcs, fun hf => by simp [hc.not_fault hs] at hf⟩
  · exact ⟨fun hf => by simp [isFault] at hf, fun _ => rfl⟩

/-! ### The status -/

/-- Only `Running` executions step (`10_state.md` R42). -/
theorem status_running_of_step {s t : State} (h : step s = .next t) : s.status = .running := by
  unfold step at h
  split at h
  · cases h
  · cases h
  · assumption

/-- Settles O39: a state that has a next state is running, so neither final status has one. -/
theorem finishedNeverSteps : Obligations.FinishedNeverSteps := by
  refine ⟨State.launch_status, fun s v hs t h => ?_, fun s k hs t h => ?_⟩
  · cases hs.symm.trans (status_running_of_step h)
  · cases hs.symm.trans (status_running_of_step h)

end Sys2Proof.Claims
end

section
/-! PROOFS. The family of `20_memory.md`: admission in the words of R71, what every access answers by it, and from
these the admission of events and instructions (O21), the address they use (O55), and that narrow reads see the bytes of
a wide store (O28). -/

namespace Sys2Proof.Claims

open Sys2Proof.Machine

/-! ### The stack area and the regions -/

/-- The stack area ends at `STACK_TOP` and holds the bytes that R80 gives it. -/
theorem regionHolds_stackArea (c : Config) (a n : Nat) : regionHolds (stackArea c) a n = insideStack c a n := by
  have hbase : (stackArea c).base.toNat = c.stackTop.toNat - c.stackSize * c.maxCallDepth :=
    Nat.mod_eq_of_lt (Nat.lt_of_le_of_lt (Nat.sub_le _ _) c.stackTop.isLt)
  have hend : (stackArea c).base.toNat + (stackArea c).length = c.stackTop.toNat := by
    rw [hbase]
    exact Nat.add_sub_cancel' (Nat.sub_le _ _)
  rw [regionHolds, hend, hbase, insideStack]

theorem regionAllows_eq_permits (g : Region) (k : AccessKind) : regionAllows g k = permits g k := by
  cases k <;> rfl

/-- The stack area allows every kind of access (`20_memory.md` R80). -/
theorem permits_stackArea (c : Config) (k : AccessKind) : permits (stackArea c) k = true := by
  cases k <;> rfl

theorem areas_any_holds (c : Config) (a : Word) (n : MemSize) :
    (areas c).any (fun g => regionHolds g a.toNat (sizeBytes n)) = mapped c a n := by
  rw [areas, List.any_cons, regionHolds_stackArea]
  rfl

theorem areas_any_allows (c : Config) (a : Word) (n : MemSize) (k : AccessKind) :
    (areas c).any (fun g => regionHolds g a.toNat (sizeBytes n) && regionAllows g k) = allowed c a n k := by
  simp only [areas, List.any_cons, regionHolds_stackArea, regionAllows_eq_permits, permits_stackArea, Bool.and_true]
  rfl

/-- A byte that the statements call unshared is one whose reads are no inputs (`20_memory.md` R90, `48_imm64.md`
R488). -/
theorem sharedByteAt_eq_not_unshared (c : Config) (a : Nat) : sharedByteAt c a = !unshared c a := by
  have hshared : ∀ g, regionShared c g = (g.shared || mapValue c g) := fun g => by
    simp only [regionShared, isMapValue, mapValue, Bool.beq_eq_decide_eq]
  simp only [sharedByteAt, unshared, stackByteAt, regionHolds_stackArea, hshared, Bool.not_or, List.not_all_eq_any_not,
    Bool.not_not]
  rfl

/-! ### Admission -/

theorem misaligned_eq_not_alignedEnough (c : Config) (a : Word) (n : MemSize) (k : AccessKind) :
    misaligned c a n k = !alignedEnough c a n k := by
  cases k with
  | atomic => simp [misaligned, alignedEnough, bne, Bool.beq_eq_decide_eq]
  | read | write => simp [misaligned, alignedEnough, bne, Bool.beq_eq_decide_eq]

/-- A place that allows the access holds all of its bytes. -/
theorem mapped_of_allowed {c : Config} {a : Word} {n : MemSize} {k : AccessKind} (h : allowed c a n k = true) :
    mapped c a n = true := by
  unfold allowed at h
  unfold mapped
  rw [Bool.or_eq_true] at h ⊢
  refine h.imp_right fun hr => ?_
  obtain ⟨g, hg, hin⟩ := List.any_eq_true.mp hr
  obtain ⟨hinside, -⟩ := Bool.and_eq_true_iff.mp hin
  exact List.any_eq_true.mpr ⟨g, hg, hinside⟩

/-- The reasons of R516 in their order, in the words of R71. -/
theorem denial_eq (c : Config) (a : Word) (n : MemSize) (k : AccessKind) :
    denial c a n k =
      if fits a n = false then some .wraps
      else if alignedEnough c a n k = false then some .misaligned
      else if mapped c a n = false then some .notMapped
      else if allowed c a n k = false then some .noPermission
      else none := by
  simp only [denial, areas_any_holds, areas_any_allows, misaligned_eq_not_alignedEnough, Bool.not_eq_true', fits,
    decide_eq_false_iff_not, Nat.not_le]

/-- No reason applies exactly to an admitted access. -/
theorem denial_eq_none_iff {c : Config} {a : Word} {n : MemSize} {k : AccessKind} :
    denial c a n k = none ↔ admitted c a n k = true := by
  have hmap := @mapped_of_allowed c a n k
  rw [denial_eq, admitted]
  grind

/-- The model gives the reason that R516 gives. -/
theorem denial_eq_some_iff {c : Config} {a : Word} {n : MemSize} {k : AccessKind} {why : MemReason} :
    denial c a n k = some why ↔ deniedBecause c a n k why = true := by
  rw [denial_eq]
  cases why with
  | wraps | misaligned | notMapped | noPermission =>
    rw [deniedBecause]
    grind

/-- An access that is not admitted has a reason. -/
theorem exists_denial {c : Config} {a : Word} {n : MemSize} {k : AccessKind} (h : admitted c a n k = false) :
    ∃ why, denial c a n k = some why :=
  Option.ne_none_iff_exists'.mp fun hn => by simp [denial_eq_none_iff.mp hn] at h

/-! ### What an access answers -/

/-- What `x` answers when it makes the access (a, n, k) and nothing in it can fail after that: a `good` result where the
access is admitted, the fault with the first reason where it is not (`20_memory.md` R71, `60_exceptions.md` R516). -/
structure MakesAccess {α : Type} (s : State) (a : Word) (n : MemSize) (k : AccessKind) (good : α → Prop)
    (x : Except FaultInfo α) : Prop where
  completes : admitted s.cfg a n k = true → ∃ v, x = .ok v ∧ good v
  faults : ∀ why, deniedBecause s.cfg a n k why = true → x = .error (.memoryFault s.pc a n k why)

section Accesses

variable {α β : Type} {s : State} {a : Word} {n : MemSize} {k : AccessKind} {good : α → Prop} {x : Except FaultInfo α}

/-- A refused access has a reason, which its fault records. -/
theorem MakesAccess.error_of_not_admitted (h : MakesAccess s a n k good x) (ha : admitted s.cfg a n k = false) :
    ∃ why, x = .error (.memoryFault s.pc a n k why) := by
  obtain ⟨why, hw⟩ := exists_denial ha
  exact ⟨why, h.faults why (denial_eq_some_iff.mp hw)⟩

/-- An access is answered without a fault exactly where it is admitted. -/
theorem MakesAccess.ok_iff (h : MakesAccess s a n k good x) : (∃ v, x = .ok v) ↔ admitted s.cfg a n k = true := by
  refine ⟨fun ⟨v, hv⟩ => ?_, fun ha => (h.completes ha).imp fun _ => And.left⟩
  cases ha : admitted s.cfg a n k with
  | true => rfl
  | false =>
    obtain ⟨why, hx⟩ := h.error_of_not_admitted ha
    cases hv.symm.trans hx

/-- What follows an access and cannot fail changes nothing about when it completes. -/
theorem MakesAccess.bind {f : α → Except FaultInfo β} {good' : β → Prop} (h : MakesAccess s a n k good x)
    (hf : ∀ v, good v → ∃ w, f v = .ok w ∧ good' w) : MakesAccess s a n k good' (x >>= f) where
  completes ha := by
    obtain ⟨v, rfl, hv⟩ := h.completes ha
    exact hf v hv
  faults why hw := by
    rw [h.faults why hw]
    rfl

theorem checkAccess_makesAccess : MakesAccess s a n k (fun _ => True) (s.checkAccess a n k) where
  completes ha := ⟨(), State.checkAccess_none (denial_eq_none_iff.mpr ha), trivial⟩
  faults why hw := by simp only [State.checkAccess, denial_eq_some_iff.mpr hw]

theorem memRead_makesAccess : MakesAccess s a n .read (fun _ => True) (s.memRead a n) :=
  checkAccess_makesAccess.bind fun _ _ => ⟨_, rfl, trivial⟩

theorem memWrite_makesAccess {v : Word} :
    MakesAccess s a n .write (fun t => t.status = s.status) (s.memWrite a n v) :=
  checkAccess_makesAccess.bind fun _ _ => ⟨_, rfl, rfl⟩

/-- The atomic event makes its access whether or not it stores (log entry 19). -/
theorem atomicEvent_makesAccess {f : Word → Option Word} :
    MakesAccess s a n .atomic (fun p => p.2.status = s.status) (s.atomicEvent a n f) := by
  refine checkAccess_makesAccess.bind fun _ _ => ?_
  dsimp only
  split
  · exact ⟨_, rfl, rfl⟩
  · exact ⟨_, rfl, rfl⟩

end Accesses

/-! ### The access of an instruction -/

/-- Every register of a list without an unwritten one holds a value. -/
theorem get_of_firstUnwritten_none {s : State} {rs : List Reg} {r : Reg} (h : firstUnwritten s rs = none)
    (hr : r ∈ rs) : ∃ v, s.regs.get r = some v := by
  have hn := List.find?_eq_none.mp h r hr
  exact Option.ne_none_iff_exists'.mp fun hnone => hn (by simp [hnone])

section Rules

variable {s : State} {a base : Word} {n : MemSize} {k : AccessKind} {dst src : Reg} {offset : BitVec 16}
  {good : State → Prop}

/-- Reading a register that holds a value comes before the access and cannot fail. -/
theorem makesAccess_of_readReg {r : Reg} {v : Word} {f : Word → Except FaultInfo State} (hr : s.regs.get r = some v)
    (h : MakesAccess s a n k good (f v)) : MakesAccess s a n k good (s.readReg r >>= f) := by
  rw [State.readReg_some hr]
  exact h

theorem load_makesAccess {extend : Word → Word} (hb : s.regs.get src = some base) :
    MakesAccess s (effectiveAddress base offset) n .read (fun t => t.status = s.status)
      (s.load dst src offset n extend) :=
  makesAccess_of_readReg hb (memRead_makesAccess.bind fun _ _ => ⟨_, rfl, rfl⟩)

theorem storeImm_makesAccess {imm : BitVec 32} (hb : s.regs.get dst = some base) :
    MakesAccess s (effectiveAddress base offset) n .write (fun t => t.status = s.status)
      (s.storeImm dst offset imm n) :=
  makesAccess_of_readReg hb (memWrite_makesAccess.bind fun t ht => ⟨t.advance 1, rfl, ht⟩)

theorem storeReg_makesAccess (hb : s.regs.get dst = some base) (hw : firstUnwritten s [dst, src] = none) :
    MakesAccess s (effectiveAddress base offset) n .write (fun t => t.status = s.status)
      (s.storeReg dst src offset n) := by
  obtain ⟨v, hv⟩ := get_of_firstUnwritten_none hw (r := src) (by simp)
  exact makesAccess_of_readReg hb (makesAccess_of_readReg hv
    (memWrite_makesAccess.bind fun t ht => ⟨t.advance 1, rfl, ht⟩))

/-- The common form of the atomic operations but compare and exchange, of either width: `g` is how they end. -/
theorem atomic_makesAccess {f : Word → Word → Option Word} {g : Word × State → State}
    (hg : ∀ p, (g p).status = p.2.status) (hb : s.regs.get dst = some base)
    (hw : firstUnwritten s [dst, src] = none) :
    MakesAccess s (effectiveAddress base offset) n .atomic (fun t => t.status = s.status)
      (s.readReg dst >>= fun b => s.readReg src >>= fun v =>
        s.atomicEvent (effectiveAddress b offset) n (f v) >>= fun p => .ok (g p)) := by
  obtain ⟨v, hv⟩ := get_of_firstUnwritten_none hw (r := src) (by simp)
  exact makesAccess_of_readReg hb (makesAccess_of_readReg hv
    (atomicEvent_makesAccess.bind fun p hp => ⟨g p, rfl, (hg p).trans hp⟩))

/-- The common form of the two compare and exchange operations. -/
theorem atomicCompare_makesAccess {f : Word → Word → Word → Option Word} {g : Word × State → State}
    (hg : ∀ p, (g p).status = p.2.status) (hb : s.regs.get dst = some base)
    (hw : firstUnwritten s [dst, src, .r0] = none) :
    MakesAccess s (effectiveAddress base offset) n .atomic (fun t => t.status = s.status)
      (s.readReg dst >>= fun b => s.readReg src >>= fun v => s.readReg .r0 >>= fun e =>
        s.atomicEvent (effectiveAddress b offset) n (f v e) >>= fun p => .ok (g p)) := by
  obtain ⟨v, hv⟩ := get_of_firstUnwritten_none hw (r := src) (by simp)
  obtain ⟨e, he⟩ := get_of_firstUnwritten_none hw (r := .r0) (by simp)
  exact makesAccess_of_readReg hb (makesAccess_of_readReg hv (makesAccess_of_readReg he
    (atomicEvent_makesAccess.bind fun p hp => ⟨g p, rfl, (hg p).trans hp⟩)))

end Rules

/-- An instruction with an access, whose registers hold values, is an attempt that makes this access. -/
theorem exec_makesAccess {i : Instr} {s : State} {b : Reg} {base : Word} {offset : BitVec 16} {n : MemSize}
    {k : AccessKind} (ha : accessOf i = some (b, offset, n, k)) (hw : firstUnwritten s (readsOf i) = none)
    (hb : s.regs.get b = some base) :
    ∃ r, exec i s = s.attempt r ∧
      MakesAccess s (effectiveAddress base offset) n k (fun t => t.status = s.status) r := by
  cases i with
  | ldxb _ _ _ | ldxh _ _ _ | ldxw _ _ _ | ldxdw _ _ _ | ldxsb _ _ _ | ldxsh _ _ _ | ldxsw _ _ _ =>
    cases ha
    exact ⟨_, rfl, load_makesAccess hb⟩
  | stb _ _ _ | sth _ _ _ | stw _ _ _ | stdw _ _ _ =>
    cases ha
    exact ⟨_, rfl, storeImm_makesAccess hb⟩
  | stxb _ _ _ | stxh _ _ _ | stxw _ _ _ | stxdw _ _ _ =>
    cases ha
    exact ⟨_, rfl, storeReg_makesAccess hb hw⟩
  | atomicAdd32 _ _ _ | atomicOr32 _ _ _ | atomicAnd32 _ _ _ | atomicXor32 _ _ _ | atomicAdd64 _ _ _
  | atomicOr64 _ _ _ | atomicAnd64 _ _ _ | atomicXor64 _ _ _ | atomicFetchAdd32 _ _ _ | atomicFetchOr32 _ _ _
  | atomicFetchAnd32 _ _ _ | atomicFetchXor32 _ _ _ | atomicXchg32 _ _ _ | atomicFetchAdd64 _ _ _
  | atomicFetchOr64 _ _ _ | atomicFetchAnd64 _ _ _ | atomicFetchXor64 _ _ _ | atomicXchg64 _ _ _ =>
    cases ha
    exact ⟨_, rfl, atomic_makesAccess (fun _ => rfl) hb hw⟩
  | atomicCmpxchg32 _ _ _ | atomicCmpxchg64 _ _ _ =>
    cases ha
    exact ⟨_, rfl, atomicCompare_makesAccess (fun _ => rfl) hb hw⟩
  | _ => cases ha

/-! ### The effective address -/

/-- The model's address is the sum on integers, reduced (`20_memory.md` R72). -/
theorem effectiveAddress_eq_address (base : Word) (offset : BitVec 16) :
    effectiveAddress base offset = address base offset := by
  rw [effectiveAddress, address, BitVec.ofInt_add, BitVec.ofInt_natCast, BitVec.ofNat_toNat, BitVec.setWidth_eq,
    BitVec.signExtend]

/-- The base register and the displacement are the fields R72 names. -/
theorem accessOf_fields {i : Instr} {b : Reg} {offset : BitVec 16} {n : MemSize} {k : AccessKind}
    (ha : accessOf i = some (b, offset, n, k)) :
    (b.number = if k = .read then i.fields.src else i.fields.dst) ∧ offset = i.fields.offset := by
  cases i with
  | ldxb _ _ _ | ldxh _ _ _ | ldxw _ _ _ | ldxdw _ _ _ | ldxsb _ _ _ | ldxsh _ _ _ | ldxsw _ _ _
  | stb _ _ _ | sth _ _ _ | stw _ _ _ | stdw _ _ _ | stxb _ _ _ | stxh _ _ _ | stxw _ _ _ | stxdw _ _ _
  | atomicAdd32 _ _ _ | atomicOr32 _ _ _ | atomicAnd32 _ _ _ | atomicXor32 _ _ _ | atomicAdd64 _ _ _
  | atomicOr64 _ _ _ | atomicAnd64 _ _ _ | atomicXor64 _ _ _ | atomicFetchAdd32 _ _ _ | atomicFetchOr32 _ _ _
  | atomicFetchAnd32 _ _ _ | atomicFetchXor32 _ _ _ | atomicXchg32 _ _ _ | atomicFetchAdd64 _ _ _
  | atomicFetchOr64 _ _ _ | atomicFetchAnd64 _ _ _ | atomicFetchXor64 _ _ _ | atomicXchg64 _ _ _
  | atomicCmpxchg32 _ _ _ | atomicCmpxchg64 _ _ _ =>
    cases ha
    exact ⟨rfl, rfl⟩
  | _ => cases ha

/-! ### The statements about admission and addresses -/

/-- Settles O21: every event starts with the check of admission, and an instruction takes the fault of its access. -/
theorem admissionExact : Obligations.AdmissionExact := by
  refine ⟨fun s a n => ⟨memRead_makesAccess.ok_iff, memRead_makesAccess.error_of_not_admitted,
    fun v => memWrite_makesAccess.ok_iff, fun v => memWrite_makesAccess.error_of_not_admitted,
    fun f => atomicEvent_makesAccess.ok_iff, fun f => atomicEvent_makesAccess.error_of_not_admitted⟩, ?_⟩
  intro i s b base offset n k ha hw hb hno
  obtain ⟨r, hr, hacc⟩ := exec_makesAccess ha hw hb
  rw [effectiveAddress_eq_address] at hacc
  obtain ⟨why, rfl⟩ := hacc.error_of_not_admitted hno
  exact ⟨why, hr⟩

/-- Settles O55: the fields of the access, the answer of the access at their sum, and the frame of registers. -/
theorem effectiveAddressFormula : Obligations.EffectiveAddressFormula := by
  refine ⟨effectiveAddress_eq_address, fun i s b base offset n k ha => ?_⟩
  obtain ⟨hbase, hoffset⟩ := accessOf_fields ha
  refine ⟨hbase, hoffset, fun hw hb => ?_, fun hnot t ht => registerFrame i s t b ht hnot⟩
  obtain ⟨r, hr, hacc⟩ := exec_makesAccess ha hw hb
  rw [effectiveAddress_eq_address] at hacc
  refine ⟨fun hadm => ?_, fun why hwhy => ?_⟩
  · obtain ⟨t, rfl, ht⟩ := hacc.completes hadm
    exact ⟨t, hr, ht⟩
  · rw [hr, hacc.faults why hwhy]
    rfl

/-! ### Reading part of what was stored -/

/-- Part of an access that is admitted is admitted, where it is as aligned as its own size asks. -/
theorem admitted_part {c : Config} {a a' : Word} {n m : MemSize} {k : AccessKind} (h : admitted c a n k = true)
    (hlo : a.toNat ≤ a'.toNat) (hhi : a'.toNat + sizeBytes m ≤ a.toNat + sizeBytes n)
    (halign : a.toNat % sizeBytes n = 0 → a'.toNat % sizeBytes m = 0) : admitted c a' m k = true := by
  simp only [admitted, Bool.and_eq_true] at h ⊢
  obtain ⟨⟨hfits, hallowed⟩, haligned⟩ := h
  refine ⟨⟨?fits, ?allowed⟩, ?aligned⟩
  case fits =>
    simp only [fits, decide_eq_true_eq] at hfits ⊢
    omega
  case allowed =>
    simp only [allowed, insideStack, insideRegion, Bool.or_eq_true, Bool.and_eq_true, List.any_eq_true,
      decide_eq_true_eq] at hallowed ⊢
    obtain ⟨hbottom, htop⟩ | ⟨g, hg, ⟨hfirst, hlast⟩, hkind⟩ := hallowed
    · exact .inl ⟨by omega, by omega⟩
    · exact .inr ⟨g, hg, ⟨by omega, by omega⟩, hkind⟩
  case aligned =>
    cases k <;> simp only [alignedEnough, Bool.or_eq_true, decide_eq_true_eq] at haligned ⊢
    case atomic => exact halign haligned
    case read | write => exact haligned.imp_right halign

theorem memRead_of_admitted {s : State} {a : Word} {n : MemSize} (ha : admitted s.cfg a n .read = true) :
    s.memRead a n = .ok (s.valueAt a n) := by
  obtain ⟨v, hv⟩ := memRead_makesAccess.ok_iff.mpr ha
  rw [hv, (State.memRead_ok hv).right]

/-- A store whose registers hold values completes at an admitted address, with memory as `State.stored` says. -/
theorem storeReg_of_admitted {s : State} {dst src : Reg} {offset : BitVec 16} {n : MemSize} {base v : Word}
    (hb : s.regs.get dst = some base) (hv : s.regs.get src = some v)
    (ha : admitted s.cfg (address base offset) n .write = true) :
    s.storeReg dst src offset n =
      .ok (({ s with mem := s.stored (address base offset) n v } : State).advance 1) := by
  have hw : firstUnwritten s [dst, src] = none := by simp [firstUnwritten, hb, hv]
  rw [← effectiveAddress_eq_address] at ha ⊢
  obtain ⟨t, ht, -⟩ := (storeReg_makesAccess hb hw).completes ha
  obtain ⟨base', v', hb', hv', -, rfl⟩ := State.storeReg_ok ht
  cases hb.symm.trans hb'
  cases hv.symm.trans hv'
  exact ht

/-- After a store, a read sees at the unshared addresses of the store the bytes it put there (`20_memory.md` R75, R91
(a)). -/
theorem seenByte_of_stored {s t : State} {a : Word} {n : MemSize} {v : Word} {j : Nat} (hc : t.cfg = s.cfg)
    (hm : t.mem = s.stored a n v) (hfits : a.toNat + sizeBytes n ≤ 2 ^ 64) (hj : j < sizeBytes n)
    (hp : unshared s.cfg (a.toNat + j) = true) :
    some (t.seenByte (a.toNat + j)) = (splitBytes s.cfg.endian (sizeBytes n) v)[j]? := by
  have hlisted := State.stored_inside s a n v j hj hfits
  have hlt : j < (splitBytes s.cfg.endian (sizeBytes n) v).length := by simpa using hj
  rw [List.getElem?_eq_getElem hlt] at hlisted ⊢
  rw [State.seenByte_own (by rw [hc, sharedByteAt_eq_not_unshared, hp]; rfl) (by rw [hm, hlisted])]

/-- A read inside the bytes of a store takes its bytes out of those the store put there (`20_memory.md` R78). -/
theorem valueAt_of_stored {s t : State} {a a' : Word} {n m : MemSize} {v : Word} {j : Nat} (hc : t.cfg = s.cfg)
    (hm : t.mem = s.stored a n v) (hfits : a.toNat + sizeBytes n ≤ 2 ^ 64) (ha' : a'.toNat = a.toNat + j)
    (hj : j + sizeBytes m ≤ sizeBytes n) (hp : ∀ k, k < sizeBytes n → unshared s.cfg (a.toNat + k) = true) :
    t.valueAt a' m =
      joinBytes s.cfg.endian (((splitBytes s.cfg.endian (sizeBytes n) v).drop j).take (sizeBytes m)) := by
  rw [State.valueAt, hc]
  congr 1
  refine List.ext_getElem? fun k => ?_
  by_cases hk : k < sizeBytes m
  · have hseen := seenByte_of_stored hc hm hfits (j := j + k) (by omega) (hp _ (by omega))
    simp only [List.getElem?_map, List.getElem?_range hk, Option.map_some, List.getElem?_take_of_lt hk,
      List.getElem?_drop, ha', Nat.add_assoc, hseen]
  · rw [List.getElem?_eq_none (by simp only [List.length_map, List.length_range]; omega),
      List.getElem?_eq_none (by rw [List.length_take]; omega)]

/-- What `MemRead` answers inside the bytes of a store, at an address that admits reading all of them. -/
theorem memRead_of_stored {s t : State} {a a' : Word} {n m : MemSize} {v : Word} {j : Nat} (hc : t.cfg = s.cfg)
    (hm : t.mem = s.stored a n v) (hread : admitted s.cfg a n .read = true) (ha' : a'.toNat = a.toNat + j)
    (hj : j + sizeBytes m ≤ sizeBytes n) (halign : a.toNat % sizeBytes n = 0 → a'.toNat % sizeBytes m = 0)
    (hp : ∀ k, k < sizeBytes n → unshared s.cfg (a.toNat + k) = true) :
    t.memRead a' m =
      .ok (joinBytes s.cfg.endian (((splitBytes s.cfg.endian (sizeBytes n) v).drop j).take (sizeBytes m))) := by
  have hadm : admitted t.cfg a' m .read = true := by
    rw [hc]
    exact admitted_part hread (by omega) (by omega) halign
  rw [memRead_of_admitted hadm,
    valueAt_of_stored hc hm (denial_none_fits (denial_eq_none_iff.mpr hread)) ha' hj hp]

/-- Settles O28: each read takes its bytes out of the eight stored, which are the eight of R78 in either order. -/
theorem mixedWidthsSeeTheSameBytes : Obligations.MixedWidthsSeeTheSameBytes := by
  intro s dst src offset base hb hv hwrite hread hp
  obtain ⟨t, ht, hc, hm⟩ : ∃ t, exec (.stxdw dst src offset) s = .next t ∧ t.cfg = s.cfg ∧
      t.mem = s.stored (address base offset) .dw 0x1122334455667788 :=
    ⟨_, congrArg s.attempt (storeReg_of_admitted hb hv hwrite), rfl, rfl⟩
  have hfits : (address base offset).toNat + 8 ≤ 2 ^ 64 := denial_none_fits (denial_eq_none_iff.mpr hread)
  have hupper : (address base offset + 4).toNat = (address base offset).toNat + 4 := by bv_omega
  have hbyte := memRead_of_stored (m := .b) (j := 0) hc hm hread rfl (by decide) (fun _ => Nat.mod_one _) hp
  have hhalf := memRead_of_stored (m := .h) (j := 0) hc hm hread rfl (by decide)
    (by simp only [sizeBytes]; omega) hp
  have hword := memRead_of_stored (m := .w) (j := 4) hc hm hread hupper (by decide)
    (by simp only [sizeBytes]; omega) hp
  refine ⟨t, ht, fun he => ?little, fun he => ?big⟩
  case little | big =>
    -- In a known byte order the values read are closed terms, which compute to those of R78.
    rw [he] at hbyte hhalf hword
    exact ⟨hbyte, hhalf, hword⟩

end Sys2Proof.Claims
end

section
/-! PROOFS. The family of `30_encoding.md`: what a decoded slot says about its opcode byte and, for opcode 0x18, about
its second slot, and from these the ill-formed wide instructions (O44) and the defined opcodes (O45). -/

namespace Sys2Proof.Claims

open Sys2Proof.Machine

/-! ### Slots that decode to nothing -/

/-- A step whose slots decode to nothing raises `IllegalInstruction` (`60_exceptions.md` R514). -/
theorem step_of_decode_error {s : State} {slot : Slot} {rest : List Slot} {why : Illegal} (hs : s.status = .running)
    (hpc : 0 ≤ s.pc) (hp : s.prog.drop s.pc.toNat = slot :: rest)
    (hd : decode s.cfg.endian s.cfg.localCallDisp (slot :: rest) = .error why) :
    step s = .next (faulted s (s.illegalAt slot rest)) := by
  have hf : s.fetch = .error (s.illegalAt slot rest) := by
    simp only [State.fetch, if_neg (Int.not_lt.mpr hpc), hp, hd]
  simp only [step, hs, hf]
  rfl

/-! ### Opcode 0x18 and its second slot -/

theorem append_eq_zero {x y : Byte} (h : (x ++ y : BitVec 16) = 0) : x = 0 ∧ y = 0 := by
  constructor
  · rw [← BitVec.extractLsb'_append_eq_left (a := x) (b := y), h]
    rfl
  · rw [← BitVec.extractLsb'_append_eq_right (a := x) (b := y), h]
    rfl

theorem eq_zero_of_nibbles : ∀ b : Byte, b.extractLsb' 0 4 = 0 → b.extractLsb' 4 4 = 0 → b = 0 := by decide

/-- Where the four fields before `imm` are zero, so are the first four bytes of the slot, in both byte orders. -/
theorem bytes_zero_of_fields_zero {e : Endian} {g : Slot} (hop : (g.fields e).opcode = 0)
    (hdst : (g.fields e).dst = 0) (hsrc : (g.fields e).src = 0) (hoff : (g.fields e).offset = 0) :
    g.b0 = 0 ∧ g.b1 = 0 ∧ g.b2 = 0 ∧ g.b3 = 0 := by
  rw [Slot.fields_opcode] at hop
  cases e with
  | little =>
    obtain ⟨h3, h2⟩ := append_eq_zero hoff
    exact ⟨hop, eq_zero_of_nibbles _ hdst hsrc, h2, h3⟩
  | big =>
    obtain ⟨h2, h3⟩ := append_eq_zero hoff
    exact ⟨hop, eq_zero_of_nibbles _ hsrc hdst, h2, h3⟩

/-- What the check of the second slot lets through: a slot that is there, with its first four fields zero
(`30_encoding.md` R116). -/
theorem nextImmOf_ok {next : Option Fields} {v : BitVec 32} (h : nextImmOf next = .ok v) :
    ∃ g, next = some g ∧ g.opcode = 0 ∧ g.dst = 0 ∧ g.src = 0 ∧ g.offset = 0 ∧ g.imm = v := by
  cases next with
  | none => cases h
  | some g =>
    obtain ⟨_, hz, hv⟩ := bind_ok h
    obtain ⟨⟨⟨hop, hdst⟩, hsrc⟩, hoff⟩ : ((g.opcode = 0 ∧ g.dst = 0) ∧ g.src = 0) ∧ g.offset = 0 := by
      simpa using require_ok hz
    cases hv
    exact ⟨g, rfl, hop, hdst, hsrc, hoff, rfl⟩

theorem wide_ok {f : Fields} {next : Option Fields} {mk : Reg → BitVec 32 → BitVec 32 → Instr} {i : Instr}
    (h : f.wide next mk = .ok i) : ∃ v, nextImmOf next = .ok v := by
  obtain ⟨_, -, h⟩ := bind_ok h
  obtain ⟨_, -, h⟩ := bind_ok h
  obtain ⟨v, hv, -⟩ := bind_ok h
  exact ⟨v, hv⟩

theorem wideZero_ok {f : Fields} {next : Option Fields} {mk : Reg → BitVec 32 → Instr} {i : Instr}
    (h : f.wideZero next mk = .ok i) : nextImmOf next = .ok 0 := by
  obtain ⟨_, -, h⟩ := bind_ok h
  obtain ⟨_, -, h⟩ := bind_ok h
  obtain ⟨v, hv, h⟩ := bind_ok h
  obtain ⟨_, hz, -⟩ := bind_ok h
  rw [hv, beq_iff_eq.mp (require_ok hz)]

/-- A wide instruction has passed the check of its second slot, with `next_imm` 0 in the subtypes that do not use it
(`30_encoding.md` R152). -/
theorem imm64_ok {f : Fields} {next : Option Fields} {i : Instr} (h : f.imm64 next = .ok i) :
    ∃ v, nextImmOf next = .ok v ∧ (f.src ∈ [1, 3, 4, 5] → v = 0) := by
  unfold Fields.imm64 at h
  split at h
  case h_2 | h_4 | h_5 | h_6 => exact ⟨0, wideZero_ok h, fun _ => rfl⟩
  case h_1 hs | h_3 hs | h_7 hs =>
    obtain ⟨v, hv⟩ := wide_ok h
    refine ⟨v, hv, fun hm => ?_⟩
    simp [BitVec.toNat_eq, hs] at hm
  case h_8 => cases h

theorem decode_of_opcode_0x18 {e : Endian} {disp : LocalCallDisp} {slot : Slot} (rest : List Slot)
    (h : slot.b0 = 0x18) :
    decode e disp (slot :: rest) = (slot.fields e).imm64 (rest.head?.map (Slot.fields e)) := by
  simp [decode, decodeFields, Fields.decodeLd, h]

/-- Slots from which a wide instruction is read: a second slot stands there, its first four bytes are zero, and
`next_imm` is 0 in the subtypes that do not use it (`30_encoding.md` R152). -/
theorem decode_wide_ok {e : Endian} {disp : LocalCallDisp} {slot : Slot} {rest : List Slot} {i : Instr}
    (hop : slot.b0 = 0x18) (h : decode e disp (slot :: rest) = .ok i) :
    ∃ g tail, rest = g :: tail ∧ (g.b0 = 0 ∧ g.b1 = 0 ∧ g.b2 = 0 ∧ g.b3 = 0) ∧
      ((slot.fields e).src ∈ [1, 3, 4, 5] → (g.fields e).imm = 0) := by
  rw [decode_of_opcode_0x18 rest hop] at h
  obtain ⟨v, hv, hsub⟩ := imm64_ok h
  obtain ⟨gf, hnext, h0, hd, hs, ho, rfl⟩ := nextImmOf_ok hv
  cases rest with
  | nil => cases hnext
  | cons g tail =>
    cases hnext
    exact ⟨g, tail, rfl, bytes_zero_of_fields_zero h0 hd hs ho, hsub⟩

/-- Settles O44: slots of opcode 0x18 that decode have none of the three defects of R152. -/
theorem illFormedWideRefused : Obligations.IllFormedWideRefused := by
  intro e disp slot rest hop hbad
  have hrefused : ∃ why, decode e disp (slot :: rest) = .error why := by
    cases hd : decode e disp (slot :: rest) with
    | error why => exact ⟨why, rfl⟩
    | ok i =>
      obtain ⟨g, tail, rfl, ⟨h0, h1, h2, h3⟩, hsub⟩ := decode_wide_ok hop hd
      rcases hbad with hnil | ⟨_, _, hcons, hb⟩ | ⟨_, _, hcons, hsrc, himm⟩
      · cases hnil
      · cases hcons
        simp [h0, h1, h2, h3] at hb
      · cases hcons
        exact absurd (hsub hsrc) himm
  refine ⟨hrefused, fun s hs hpc he hdisp hp => ?_⟩
  obtain ⟨why, hd⟩ := hrefused
  subst he hdisp
  exact ⟨_, _, step_of_decode_error hs hpc hp hd⟩

/-! ### The opcode byte -/

/-- The decoder gives an instruction only in an arm of an opcode that R151 lists: every class ends in the arm that
refuses the others. -/
theorem opcode_listed_of_decodeFields_ok {disp : LocalCallDisp} {f : Fields} {next : Option Fields} {i : Instr}
    (h : decodeFields disp f next = .ok i) : f.opcode.toNat ∈ definedOpcodes ∨ f.opcode.toNat ∈ legacyOpcodes := by
  unfold decodeFields at h
  split at h
  all_goals
    simp only [Fields.decodeLd, Fields.decodeLdx, Fields.decodeSt, Fields.decodeStx, Fields.decodeAlu,
      Fields.decodeJmp, Fields.decodeJmp32, Fields.decodeAlu64] at h
    split at h
    rotate_right
    · cases h
    all_goals
      rename_i hop
      rw [hop]
      decide

/-- Fields with a given opcode that decode wherever some do: every other field 0, which is a legal value of all but the
width of a byte swap (`42_byteswap.md` R301). -/
def plainFields (op : Nat) : Fields := ⟨BitVec.ofNat 8 op, 0, 0, 0, if op ∈ [0xd4, 0xd7, 0xdc] then 16 else 0⟩

/-- Each opcode of R151's table is read from its plain fields and a second slot of zeros. -/
theorem decodeFields_plainFields_isOk : ∀ op ∈ definedOpcodes ++ legacyOpcodes,
    (decodeFields .offset (plainFields op) (some ⟨0, 0, 0, 0, 0⟩)).isOk = true :=
  List.all_eq_true.mp (by rfl)

/-- Settles O45: an instruction comes only from a listed opcode, and each listed opcode has fields that decode. -/
theorem definedOpcodesExactly : Obligations.DefinedOpcodesExactly := by
  refine ⟨rfl, rfl, fun op => ⟨?_, fun hlisted => ?_⟩⟩
  · rintro ⟨disp, f, next, i, rfl, hi⟩
    exact opcode_listed_of_decodeFields_ok hi
  · have hok := decodeFields_plainFields_isOk op.toNat (List.mem_append.mpr hlisted)
    cases hd : decodeFields .offset (plainFields op.toNat) (some ⟨0, 0, 0, 0, 0⟩) with
    | ok i => exact ⟨_, _, _, i, BitVec.eq_of_toNat_eq (by simp [plainFields]), hd⟩
    | error why =>
      rw [hd] at hok
      cases hok

end Sys2Proof.Claims
end

section
/-! PROOFS. The family of `40_alu64.md`: each operation of the machine on integers, at every width where the operation
has one, how the two forms of a 64-bit operation complete, and from these the results of the 26 instructions (O1). -/

namespace Sys2Proof.Claims

open Sys2Proof.Machine

/-! ### The operations on integers (`40_alu64.md` R200, R203; `41_alu32.md` R250, R253) -/

/-- Truncating division is the quotient of the magnitudes under the product of the signs (`00_scope.md` R9). -/
theorem tdiv_eq_truncatedDiv (a b : Int) : a.tdiv b = truncatedDiv a b := by
  rw [truncatedDiv, ← Int.sign_mul_natAbs (a.tdiv b), Int.natAbs_tdiv, Int.sign_tdiv]
  split
  case isTrue hlt => simp [Nat.div_eq_of_lt hlt]
  case isFalse => rfl

theorem tmod_eq_truncatedRem (a b : Int) : a.tmod b = truncatedRem a b := by
  rw [Int.tmod_def, tdiv_eq_truncatedDiv, truncatedRem]

section Operations

variable {w : Nat} (d v : BitVec w)

theorem addOp_eq_sumOf : addOp d v = sumOf d v := by
  simp [addOp, sumOf, BitVec.ofNat_add]

theorem subOp_eq_differenceOf : subOp d v = differenceOf d v := by
  simp [subOp, differenceOf, Int.sub_eq_add_neg, BitVec.ofInt_add, BitVec.ofInt_neg, BitVec.sub_eq_add_neg]

theorem mulOp_eq_productOf : mulOp d v = productOf d v := by
  simp [mulOp, productOf, BitVec.ofNat_mul]

theorem orOp_eq_disjunctionOf : orOp d v = disjunctionOf d v := by
  simp [orOp, disjunctionOf, BitVec.ofNat_or]

theorem andOp_eq_conjunctionOf : andOp d v = conjunctionOf d v := by
  simp [andOp, conjunctionOf, BitVec.ofNat_and]

theorem xorOp_eq_exclusiveOf : xorOp d v = exclusiveOf d v := by
  simp [xorOp, exclusiveOf, BitVec.ofNat_xor]

theorem divOp_eq_quotientOf : divOp d v = quotientOf d v :=
  ite_congr (propext BitVec.toNat_eq) (fun _ => rfl) fun _ => rfl

theorem sdivOp_eq_signedQuotientOf : sdivOp d v = signedQuotientOf d v :=
  ite_congr (propext BitVec.toNat_eq) (fun _ => rfl) fun _ => congrArg (BitVec.ofInt w) (tdiv_eq_truncatedDiv _ _)

theorem modOp_eq_remainderOf : modOp d v = remainderOf d v :=
  ite_congr (propext BitVec.toNat_eq) (fun _ => rfl) fun _ => congrArg (BitVec.ofNat w) (Nat.mod_eq_sub _ _)

theorem smodOp_eq_signedRemainderOf : smodOp d v = signedRemainderOf d v :=
  ite_congr (propext BitVec.toNat_eq) (fun _ => rfl) fun _ => congrArg (BitVec.ofInt w) (tmod_eq_truncatedRem _ _)

/-! ### Shifts by the amount modulo the width -/

theorem shiftLeft_eq_shiftedLeft : d <<< (v.toNat % w) = shiftedLeft d v :=
  BitVec.eq_of_toNat_eq (by simp [shiftedLeft, Nat.shiftLeft_eq])

theorem ushiftRight_eq_shiftedRight : d >>> (v.toNat % w) = shiftedRight d v := by
  rw [shiftedRight, ← Nat.shiftRight_eq_div_pow, ← BitVec.toNat_ushiftRight, BitVec.ofNat_toNat, BitVec.setWidth_eq]

theorem sshiftRight_eq_shiftedRightSigned : d.sshiftRight (v.toNat % w) = shiftedRightSigned d v := by
  rw [shiftedRightSigned, Int.fdiv_eq_ediv_of_nonneg _ (Int.pow_nonneg (by decide)), BitVec.sshiftRight,
    Int.shiftRight_eq_div_pow]
  norm_cast

end Operations

/-- `S & 0x3f` is `S mod 64` (`40_alu64.md` R218 to R221, R230, R231). -/
theorem shiftAmount64_eq_mod (v : Word) : shiftAmount64 v = v.toNat % 64 :=
  (BitVec.toNat_and v 0x3f).trans (Nat.and_two_pow_sub_one_eq_mod v.toNat 6)

theorem lsh64_eq_shiftedLeft (d v : Word) : lsh64 d v = shiftedLeft d v := by
  rw [lsh64, shiftAmount64_eq_mod, shiftLeft_eq_shiftedLeft]

theorem rsh64_eq_shiftedRight (d v : Word) : rsh64 d v = shiftedRight d v := by
  rw [rsh64, shiftAmount64_eq_mod, ushiftRight_eq_shiftedRight]

theorem arsh64_eq_shiftedRightSigned (d v : Word) : arsh64 d v = shiftedRightSigned d v := by
  rw [arsh64, shiftAmount64_eq_mod, sshiftRight_eq_shiftedRightSigned]

/-! ### How the two forms complete -/

theorem sextImm_eq_ofInt (imm : BitVec 32) : sextImm imm = BitVec.ofInt 64 imm.toInt := rfl

theorem alu64Imm_of_get {s : State} {dst : Reg} {d : Word} (imm : BitVec 32) (op : Word → Word → Word)
    (hd : s.regs.get dst = some d) : s.alu64Imm dst imm op = .ok (wrote s dst (op d (sextImm imm)) 1) := by
  rw [State.alu64Imm, State.readReg_some hd]
  rfl

theorem alu64Reg_of_get {s : State} {dst src : Reg} {d v : Word} (op : Word → Word → Word)
    (hd : s.regs.get dst = some d) (hv : s.regs.get src = some v) :
    s.alu64Reg dst src op = .ok (wrote s dst (op d v) 1) := by
  rw [State.alu64Reg, State.readReg_some hd, State.readReg_some hv]
  rfl

/-- An instruction with `BPF_K` whose meaning is the operation `op` has the results of the function `op` equals. -/
theorem imm64_of_exec {mk : Reg → BitVec 32 → Instr} {op f : Word → Word → Word} (hop : ∀ d v, op d v = f d v)
    (hexec : ∀ s dst imm, exec (mk dst imm) s = s.attempt (s.alu64Imm dst imm op)) : Imm64 mk f := by
  intro s dst imm d hd
  rw [hexec, alu64Imm_of_get imm op hd, State.attempt_ok, hop, sextImm_eq_ofInt]

/-- An instruction with `BPF_X` whose meaning is the operation `op` has the results of the function `op` equals. -/
theorem reg64_of_exec {mk : Reg → Reg → Instr} {op f : Word → Word → Word} (hop : ∀ d v, op d v = f d v)
    (hexec : ∀ s dst src, exec (mk dst src) s = s.attempt (s.alu64Reg dst src op)) : Reg64 mk f := by
  intro s dst src d v hd hv
  rw [hexec, alu64Reg_of_get op hd hv, State.attempt_ok, hop]

/-- Settles O1: each instruction means its operation in `exec`, and each operation is its function on integers. -/
theorem alu64Results : Obligations.Alu64Results :=
  ⟨imm64_of_exec addOp_eq_sumOf fun _ _ _ => rfl, reg64_of_exec addOp_eq_sumOf fun _ _ _ => rfl,
    imm64_of_exec subOp_eq_differenceOf fun _ _ _ => rfl, reg64_of_exec subOp_eq_differenceOf fun _ _ _ => rfl,
    imm64_of_exec mulOp_eq_productOf fun _ _ _ => rfl, reg64_of_exec mulOp_eq_productOf fun _ _ _ => rfl,
    imm64_of_exec divOp_eq_quotientOf fun _ _ _ => rfl, reg64_of_exec divOp_eq_quotientOf fun _ _ _ => rfl,
    imm64_of_exec sdivOp_eq_signedQuotientOf fun _ _ _ => rfl,
    reg64_of_exec sdivOp_eq_signedQuotientOf fun _ _ _ => rfl,
    imm64_of_exec orOp_eq_disjunctionOf fun _ _ _ => rfl, reg64_of_exec orOp_eq_disjunctionOf fun _ _ _ => rfl,
    imm64_of_exec andOp_eq_conjunctionOf fun _ _ _ => rfl, reg64_of_exec andOp_eq_conjunctionOf fun _ _ _ => rfl,
    imm64_of_exec lsh64_eq_shiftedLeft fun _ _ _ => rfl, reg64_of_exec lsh64_eq_shiftedLeft fun _ _ _ => rfl,
    imm64_of_exec rsh64_eq_shiftedRight fun _ _ _ => rfl, reg64_of_exec rsh64_eq_shiftedRight fun _ _ _ => rfl,
    imm64_of_exec modOp_eq_remainderOf fun _ _ _ => rfl, reg64_of_exec modOp_eq_remainderOf fun _ _ _ => rfl,
    imm64_of_exec smodOp_eq_signedRemainderOf fun _ _ _ => rfl,
    reg64_of_exec smodOp_eq_signedRemainderOf fun _ _ _ => rfl,
    imm64_of_exec xorOp_eq_exclusiveOf fun _ _ _ => rfl, reg64_of_exec xorOp_eq_exclusiveOf fun _ _ _ => rfl,
    imm64_of_exec arsh64_eq_shiftedRightSigned fun _ _ _ => rfl,
    reg64_of_exec arsh64_eq_shiftedRightSigned fun _ _ _ => rfl⟩

end Sys2Proof.Claims
end

section
/-! PROOFS. The family of `41_alu32.md`: the halves of a register as the statements write them, how the two forms of a
32-bit operation complete, and from these and the operations on integers the results of the 26 instructions (O3). -/

namespace Sys2Proof.Claims

open Sys2Proof.Machine

/-! ### The shifts -/

/-- `S & 0x1f` is `S mod 32` (`41_alu32.md` R268 to R271, R280, R281). -/
theorem shiftAmount32_eq_mod (v : BitVec 32) : shiftAmount32 v = v.toNat % 32 :=
  (BitVec.toNat_and v 0x1f).trans (Nat.and_two_pow_sub_one_eq_mod v.toNat 5)

theorem lsh32_eq_shiftedLeft (d v : BitVec 32) : lsh32 d v = shiftedLeft d v := by
  rw [lsh32, shiftAmount32_eq_mod, shiftLeft_eq_shiftedLeft]

theorem rsh32_eq_shiftedRight (d v : BitVec 32) : rsh32 d v = shiftedRight d v := by
  rw [rsh32, shiftAmount32_eq_mod, ushiftRight_eq_shiftedRight]

theorem arsh32_eq_shiftedRightSigned (d v : BitVec 32) : arsh32 d v = shiftedRightSigned d v := by
  rw [arsh32, shiftAmount32_eq_mod, sshiftRight_eq_shiftedRightSigned]

/-! ### Halves of a register (`41_alu32.md` R250) -/

theorem low32_eq_lowHalf (v : Word) : low32 v = lowHalf v :=
  (BitVec.ofNat_toNat 32 v).symm

theorem zext32_eq_widened (v : BitVec 32) : zext32 v = widened v :=
  (BitVec.ofNat_toNat 64 v).symm

/-! ### How the two forms complete -/

theorem alu32Imm_of_get {s : State} {dst : Reg} {d : Word} (imm : BitVec 32)
    (op : BitVec 32 → BitVec 32 → BitVec 32) (hd : s.regs.get dst = some d) :
    s.alu32Imm dst imm op = .ok (wrote s dst (widened (op (lowHalf d) imm)) 1) := by
  rw [State.alu32Imm, State.readReg_some hd, ← low32_eq_lowHalf, ← zext32_eq_widened]
  rfl

theorem alu32Reg_of_get {s : State} {dst src : Reg} {d v : Word} (op : BitVec 32 → BitVec 32 → BitVec 32)
    (hd : s.regs.get dst = some d) (hv : s.regs.get src = some v) :
    s.alu32Reg dst src op = .ok (wrote s dst (widened (op (lowHalf d) (lowHalf v))) 1) := by
  rw [State.alu32Reg, State.readReg_some hd, State.readReg_some hv, ← low32_eq_lowHalf, ← low32_eq_lowHalf,
    ← zext32_eq_widened]
  rfl

/-- An instruction with `BPF_K` whose meaning is the operation `op` has the results of the function `op` equals. -/
theorem imm32_of_exec {mk : Reg → BitVec 32 → Instr} {op f : BitVec 32 → BitVec 32 → BitVec 32}
    (hop : ∀ d v, op d v = f d v)
    (hexec : ∀ s dst imm, exec (mk dst imm) s = s.attempt (s.alu32Imm dst imm op)) : Imm32 mk f := by
  intro s dst imm d hd
  rw [hexec, alu32Imm_of_get imm op hd, State.attempt_ok, hop]

/-- An instruction with `BPF_X` whose meaning is the operation `op` has the results of the function `op` equals. -/
theorem reg32_of_exec {mk : Reg → Reg → Instr} {op f : BitVec 32 → BitVec 32 → BitVec 32}
    (hop : ∀ d v, op d v = f d v)
    (hexec : ∀ s dst src, exec (mk dst src) s = s.attempt (s.alu32Reg dst src op)) : Reg32 mk f := by
  intro s dst src d v hd hv
  rw [hexec, alu32Reg_of_get op hd hv, State.attempt_ok, hop]

/-- Settles O3: each instruction means its operation on the low halves in `exec`, and each operation is its function on
integers. -/
theorem alu32Results : Obligations.Alu32Results :=
  ⟨imm32_of_exec addOp_eq_sumOf fun _ _ _ => rfl, reg32_of_exec addOp_eq_sumOf fun _ _ _ => rfl,
    imm32_of_exec subOp_eq_differenceOf fun _ _ _ => rfl, reg32_of_exec subOp_eq_differenceOf fun _ _ _ => rfl,
    imm32_of_exec mulOp_eq_productOf fun _ _ _ => rfl, reg32_of_exec mulOp_eq_productOf fun _ _ _ => rfl,
    imm32_of_exec divOp_eq_quotientOf fun _ _ _ => rfl, reg32_of_exec divOp_eq_quotientOf fun _ _ _ => rfl,
    imm32_of_exec sdivOp_eq_signedQuotientOf fun _ _ _ => rfl,
    reg32_of_exec sdivOp_eq_signedQuotientOf fun _ _ _ => rfl,
    imm32_of_exec orOp_eq_disjunctionOf fun _ _ _ => rfl, reg32_of_exec orOp_eq_disjunctionOf fun _ _ _ => rfl,
    imm32_of_exec andOp_eq_conjunctionOf fun _ _ _ => rfl, reg32_of_exec andOp_eq_conjunctionOf fun _ _ _ => rfl,
    imm32_of_exec lsh32_eq_shiftedLeft fun _ _ _ => rfl, reg32_of_exec lsh32_eq_shiftedLeft fun _ _ _ => rfl,
    imm32_of_exec rsh32_eq_shiftedRight fun _ _ _ => rfl, reg32_of_exec rsh32_eq_shiftedRight fun _ _ _ => rfl,
    imm32_of_exec modOp_eq_remainderOf fun _ _ _ => rfl, reg32_of_exec modOp_eq_remainderOf fun _ _ _ => rfl,
    imm32_of_exec smodOp_eq_signedRemainderOf fun _ _ _ => rfl,
    reg32_of_exec smodOp_eq_signedRemainderOf fun _ _ _ => rfl,
    imm32_of_exec xorOp_eq_exclusiveOf fun _ _ _ => rfl, reg32_of_exec xorOp_eq_exclusiveOf fun _ _ _ => rfl,
    imm32_of_exec arsh32_eq_shiftedRightSigned fun _ _ _ => rfl,
    reg32_of_exec arsh32_eq_shiftedRightSigned fun _ _ _ => rfl⟩

end Sys2Proof.Claims
end

section
/-! PROOFS. The family of `42_byteswap.md`: the reversal of the low bytes of a register on integers, that each of the
three swaps is one, how an instruction of the family completes, and from these the results of the nine (O8). -/

namespace Sys2Proof.Claims

open Sys2Proof.Machine

/-! ### Byte reversal on integers (`42_byteswap.md` R302) -/

/-- The low `n` bytes of `d` in reverse order, written as in `ByteSwap`: byte k is byte `n - 1 - k` of `d`. -/
def reversedBytes (d n : Nat) : Nat :=
  ((List.range n).map (fun k => d / 2 ^ (8 * (n - 1 - k)) % 256 * 2 ^ (8 * k))).sum

theorem reversedBytes_zero (d : Nat) : reversedBytes d 0 = 0 := rfl

theorem sum_map_mul_const (f : Nat → Nat) (c : Nat) (ks : List Nat) :
    (ks.map (fun k => f k * c)).sum = (ks.map f).sum * c := by
  induction ks with
  | nil => simp only [List.map_nil, List.sum_nil, Nat.zero_mul]
  | cons k ks ih => simp only [List.map_cons, List.sum_cons, ih, Nat.add_mul]

/-- One more byte goes in below those already reversed: the order in which the swaps of `00_scope.md` R9 put bytes side
by side. -/
theorem reversedBytes_succ (d n : Nat) :
    reversedBytes d (n + 1) = reversedBytes d n * 256 + d / 2 ^ (8 * n) % 256 := by
  have hshift (k : Nat) : d / 2 ^ (8 * (n - (k + 1))) % 256 * 2 ^ (8 * (k + 1)) =
      d / 2 ^ (8 * (n - 1 - k)) % 256 * 2 ^ (8 * k) * 256 := by
    rw [Nat.sub_sub, Nat.add_comm 1 k, Nat.mul_succ 8 k, Nat.pow_add, Nat.mul_assoc]
  simp only [reversedBytes, List.range_succ_eq_map, List.map_cons, List.map_map, List.sum_cons, Function.comp_def,
    Nat.succ_eq_add_one, Nat.add_sub_cancel, Nat.sub_zero, Nat.mul_zero, Nat.pow_zero, Nat.mul_one, hshift,
    sum_map_mul_const]
  exact Nat.add_comm _ _

theorem toNat_append_byte {m : Nat} (p : BitVec m) (b : Byte) : (p ++ b).toNat = p.toNat * 256 + b.toNat := by
  rw [BitVec.toNat_append, ← Nat.shiftLeft_add_eq_or_of_lt b.isLt, Nat.shiftLeft_eq]

theorem toNat_byte_of_low {w i : Nat} (d : Word) (h : i + 8 ≤ w) :
    ((d.setWidth w).extractLsb' i 8).toNat = d.toNat / 2 ^ i % 256 := by
  rw [BitVec.extractLsb'_setWidth_of_le h, BitVec.extractLsb'_toNat, Nat.shiftRight_eq_div_pow]

theorem toNat_bswap16_low (d : Word) : (bswap16 (d.setWidth 16)).toNat = reversedBytes d.toNat 2 := by
  simp (disch := decide) only [bswap16, toNat_append_byte, toNat_byte_of_low, reversedBytes_succ, reversedBytes_zero,
    Nat.reduceMul, Nat.zero_mul, Nat.zero_add]

theorem toNat_bswap32_low (d : Word) : (bswap32 (d.setWidth 32)).toNat = reversedBytes d.toNat 4 := by
  simp (disch := decide) only [bswap32, toNat_append_byte, toNat_byte_of_low, reversedBytes_succ, reversedBytes_zero,
    Nat.reduceMul, Nat.zero_mul, Nat.zero_add]

theorem toNat_bswap64_low (d : Word) : (bswap64 (d.setWidth 64)).toNat = reversedBytes d.toNat 8 := by
  simp (disch := decide) only [bswap64, toNat_append_byte, toNat_byte_of_low, reversedBytes_succ, reversedBytes_zero,
    Nat.reduceMul, Nat.zero_mul, Nat.zero_add]

/-! ### The two named orders -/

theorem convertOrder_little {w : Nat} (swap : BitVec w → BitVec w) (e : Endian) (v : BitVec w) :
    convertOrder e .little swap v = if e == .big then swap v else v := by
  cases e <;> rfl

theorem convertOrder_big {w : Nat} (swap : BitVec w → BitVec w) (e : Endian) (v : BitVec w) :
    convertOrder e .big swap v = if e == .little then swap v else v := by
  cases e <;> rfl

/-! ### How an instruction of the family completes -/

/-- An instruction whose meaning is to reorder the low `w` bits of its register by `f`, which swaps bytes where
`reverse` says so and else keeps them, has the results of `ByteSwap`. -/
theorem byteSwap_of_exec {mk : Reg → Instr} {w : Nat} {reverse : Endian → Bool} {swap : BitVec w → BitVec w}
    {f : Endian → BitVec w → BitVec w}
    (hswap : ∀ d : Word, (swap (d.setWidth w)).toNat = reversedBytes d.toNat (w / 8))
    (hf : ∀ e v, f e v = if reverse e then swap v else v)
    (hexec : ∀ s dst, exec (mk dst) s = s.attempt (s.readReg dst >>= fun d =>
      .ok (wrote s dst ((f s.cfg.endian (d.setWidth w)).setWidth 64) 1))) : ByteSwap mk w reverse := by
  intro s dst d hd
  have hvalue : (f s.cfg.endian (d.setWidth w)).setWidth 64 =
      if reverse s.cfg.endian then BitVec.ofNat 64 (reversedBytes d.toNat (w / 8))
      else BitVec.ofNat 64 (d.toNat % 2 ^ w) := by
    rw [hf, ← BitVec.ofNat_toNat]
    split
    · rw [hswap]
    · rw [BitVec.toNat_setWidth]
  rw [hexec, State.readReg_some hd]
  exact congrArg (fun v => s.attempt (.ok (wrote s dst v 1))) hvalue

/-- Settles O8: each instruction means its swap in `exec`, under the byte orders that its name says. -/
theorem byteSwapResults : Obligations.ByteSwapResults :=
  ⟨byteSwap_of_exec toNat_bswap16_low (convertOrder_little bswap16) fun _ _ => rfl,
    byteSwap_of_exec toNat_bswap32_low (convertOrder_little bswap32) fun _ _ => rfl,
    byteSwap_of_exec toNat_bswap64_low (convertOrder_little bswap64) fun _ _ => rfl,
    byteSwap_of_exec toNat_bswap16_low (convertOrder_big bswap16) fun _ _ => rfl,
    byteSwap_of_exec toNat_bswap32_low (convertOrder_big bswap32) fun _ _ => rfl,
    byteSwap_of_exec toNat_bswap64_low (convertOrder_big bswap64) fun _ _ => rfl,
    byteSwap_of_exec toNat_bswap16_low (fun _ _ => rfl) fun _ _ => rfl,
    byteSwap_of_exec toNat_bswap32_low (fun _ _ => rfl) fun _ _ => rfl,
    byteSwap_of_exec toNat_bswap64_low (fun _ _ => rfl) fun _ _ => rfl⟩

end Sys2Proof.Claims
end

section
/-! PROOFS. The family of `43_jump64.md`: each of the eleven comparisons on integers, at every width, where a
conditional jump of either width completes, and from these the results of the 22 instructions (O9). -/

namespace Sys2Proof.Claims

open Sys2Proof.Machine

/-! ### The comparisons on integers (`43_jump64.md` R320; `44_jump32.md` R360) -/

section Comparisons

variable {w : Nat} (d v : BitVec w)

theorem condEq_iff : condEq d v = true ↔ d.toNat = v.toNat :=
  beq_iff_eq.trans BitVec.toNat_eq

theorem condNe_iff : condNe d v = true ↔ d.toNat ≠ v.toNat :=
  bne_iff_ne.trans BitVec.toNat_ne_iff_ne.symm

theorem condSet_iff : condSet d v = true ↔ d.toNat &&& v.toNat ≠ 0 := by
  rw [condSet, bne_iff_ne, ← BitVec.toNat_ne_iff_ne, BitVec.toNat_and]
  rfl

theorem condGt_iff : condGt d v = true ↔ v.toNat < d.toNat := decide_eq_true_iff

theorem condGe_iff : condGe d v = true ↔ v.toNat ≤ d.toNat := decide_eq_true_iff

theorem condLt_iff : condLt d v = true ↔ d.toNat < v.toNat := decide_eq_true_iff

theorem condLe_iff : condLe d v = true ↔ d.toNat ≤ v.toNat := decide_eq_true_iff

theorem condSgt_iff : condSgt d v = true ↔ v.toInt < d.toInt := decide_eq_true_iff

theorem condSge_iff : condSge d v = true ↔ v.toInt ≤ d.toInt := decide_eq_true_iff

theorem condSlt_iff : condSlt d v = true ↔ d.toInt < v.toInt := decide_eq_true_iff

theorem condSle_iff : condSle d v = true ↔ d.toInt ≤ v.toInt := decide_eq_true_iff

end Comparisons

/-! ### Where a conditional jump continues -/

theorem branch_true (s : State) (offset : BitVec 16) :
    s.branch offset true = jumped s (s.pc + 1 + offset.toInt) := rfl

theorem branch_false (s : State) (offset : BitVec 16) : s.branch offset false = jumped s (s.pc + 1) := rfl

/-- A jump whose test decides `c` continues at the displaced slot exactly where `c` holds. -/
theorem attempt_branch_of_iff {taken : Bool} {c : Prop} (h : taken = true ↔ c) (s : State) (offset : BitVec 16) :
    (c → s.attempt (.ok (s.branch offset taken)) = .next (jumped s (s.pc + 1 + offset.toInt))) ∧
      (¬ c → s.attempt (.ok (s.branch offset taken)) = .next (jumped s (s.pc + 1))) := by
  refine ⟨fun hc => ?_, fun hc => ?_⟩
  · rw [h.mpr hc, branch_true, State.attempt_ok]
  · rw [Bool.eq_false_iff.mpr (mt h.mp hc), branch_false, State.attempt_ok]

/-! ### How the two forms complete, at either width -/

section Forms

variable {w : Nat} {a : Word → BitVec w} {b : BitVec 32 → BitVec w} {cond : BitVec w → BitVec w → Bool}
  {c : BitVec w → BitVec w → Prop}

/-- An instruction with `BPF_K` whose meaning is to branch on the test `cond` has the outcomes of the condition that
`cond` decides. -/
theorem jumpImm_of_exec {mk : Reg → BitVec 16 → BitVec 32 → Instr} (hcond : ∀ d v, cond d v = true ↔ c d v)
    (hexec : ∀ s dst offset imm, exec (mk dst offset imm) s =
      s.attempt (s.readReg dst >>= fun d => .ok (s.branch offset (cond (a d) (b imm))))) : JumpImm mk a b c := by
  intro s dst offset imm d hd
  rw [hexec, State.readReg_some hd]
  exact attempt_branch_of_iff (hcond (a d) (b imm)) s offset

/-- An instruction with `BPF_X` whose meaning is to branch on the test `cond` has the outcomes of the condition that
`cond` decides. -/
theorem jumpReg_of_exec {mk : Reg → Reg → BitVec 16 → Instr} (hcond : ∀ d v, cond d v = true ↔ c d v)
    (hexec : ∀ s dst src offset, exec (mk dst src offset) s =
      s.attempt (s.readReg dst >>= fun d => s.readReg src >>= fun v => .ok (s.branch offset (cond (a d) (a v))))) :
    JumpReg mk a c := by
  intro s dst src offset d v hd hv
  rw [hexec, State.readReg_some hd, State.readReg_some hv]
  exact attempt_branch_of_iff (hcond (a d) (a v)) s offset

end Forms

/-- The two forms of a 64-bit jump that tests `cond`: `B` is `sext_64(imm)` or `x[src]` (`43_jump64.md` R321). -/
theorem jump64_of_exec {mkK : Reg → BitVec 16 → BitVec 32 → Instr} {mkX : Reg → Reg → BitVec 16 → Instr}
    {cond : Word → Word → Bool} {c : Word → Word → Prop} (hcond : ∀ d v, cond d v = true ↔ c d v)
    (hexecK : ∀ s dst offset imm, exec (mkK dst offset imm) s = s.attempt (s.jump64Imm dst offset imm cond))
    (hexecX : ∀ s dst src offset, exec (mkX dst src offset) s = s.attempt (s.jump64Reg dst src offset cond)) :
    Jump64 mkK mkX c :=
  ⟨jumpImm_of_exec hcond hexecK, jumpReg_of_exec hcond hexecX⟩

/-- Settles O9: each instruction branches on its test in `exec`, and each test decides its comparison of integers. -/
theorem jump64Results : Obligations.Jump64Results :=
  ⟨jump64_of_exec condEq_iff (fun _ _ _ _ => rfl) fun _ _ _ _ => rfl,
    jump64_of_exec condGt_iff (fun _ _ _ _ => rfl) fun _ _ _ _ => rfl,
    jump64_of_exec condGe_iff (fun _ _ _ _ => rfl) fun _ _ _ _ => rfl,
    jump64_of_exec condSet_iff (fun _ _ _ _ => rfl) fun _ _ _ _ => rfl,
    jump64_of_exec condNe_iff (fun _ _ _ _ => rfl) fun _ _ _ _ => rfl,
    jump64_of_exec condSgt_iff (fun _ _ _ _ => rfl) fun _ _ _ _ => rfl,
    jump64_of_exec condSge_iff (fun _ _ _ _ => rfl) fun _ _ _ _ => rfl,
    jump64_of_exec condLt_iff (fun _ _ _ _ => rfl) fun _ _ _ _ => rfl,
    jump64_of_exec condLe_iff (fun _ _ _ _ => rfl) fun _ _ _ _ => rfl,
    jump64_of_exec condSlt_iff (fun _ _ _ _ => rfl) fun _ _ _ _ => rfl,
    jump64_of_exec condSle_iff (fun _ _ _ _ => rfl) fun _ _ _ _ => rfl⟩

end Sys2Proof.Claims
end

section
/-! PROOFS. The family of `44_jump32.md`: a 32-bit jump tests the low halves of its operands, and from this and the
comparisons on integers the results of the 22 instructions (O10). -/

namespace Sys2Proof.Claims

open Sys2Proof.Machine

/-- The two forms of a 32-bit jump that tests `cond`: `B` is `imm[31:0]` or `x[src][31:0]` (`44_jump32.md` R361). -/
theorem jump32_of_exec {mkK : Reg → BitVec 16 → BitVec 32 → Instr} {mkX : Reg → Reg → BitVec 16 → Instr}
    {cond : BitVec 32 → BitVec 32 → Bool} {c : BitVec 32 → BitVec 32 → Prop} (hcond : ∀ d v, cond d v = true ↔ c d v)
    (hexecK : ∀ s dst offset imm, exec (mkK dst offset imm) s = s.attempt (s.jump32Imm dst offset imm cond))
    (hexecX : ∀ s dst src offset, exec (mkX dst src offset) s = s.attempt (s.jump32Reg dst src offset cond)) :
    Jump32 mkK mkX c := by
  have hlow : lowHalf = low32 := funext fun v => (low32_eq_lowHalf v).symm
  rw [Jump32, hlow]
  exact ⟨jumpImm_of_exec hcond hexecK, jumpReg_of_exec hcond hexecX⟩

/-- Settles O10: each instruction branches on its test of the low halves in `exec`, and each test decides its
comparison of integers. -/
theorem jump32Results : Obligations.Jump32Results :=
  ⟨jump32_of_exec condEq_iff (fun _ _ _ _ => rfl) fun _ _ _ _ => rfl,
    jump32_of_exec condGt_iff (fun _ _ _ _ => rfl) fun _ _ _ _ => rfl,
    jump32_of_exec condGe_iff (fun _ _ _ _ => rfl) fun _ _ _ _ => rfl,
    jump32_of_exec condSet_iff (fun _ _ _ _ => rfl) fun _ _ _ _ => rfl,
    jump32_of_exec condNe_iff (fun _ _ _ _ => rfl) fun _ _ _ _ => rfl,
    jump32_of_exec condSgt_iff (fun _ _ _ _ => rfl) fun _ _ _ _ => rfl,
    jump32_of_exec condSge_iff (fun _ _ _ _ => rfl) fun _ _ _ _ => rfl,
    jump32_of_exec condLt_iff (fun _ _ _ _ => rfl) fun _ _ _ _ => rfl,
    jump32_of_exec condLe_iff (fun _ _ _ _ => rfl) fun _ _ _ _ => rfl,
    jump32_of_exec condSlt_iff (fun _ _ _ _ => rfl) fun _ _ _ _ => rfl,
    jump32_of_exec condSle_iff (fun _ _ _ _ => rfl) fun _ _ _ _ => rfl⟩

end Sys2Proof.Claims
end

section
/-! PROOFS. The family of `49_legacy_packet.md`: the logical word as the sum of R112, what a legacy row is, how every
such row faults in the instruction and in the step, and from these the fault of LD_ABS and LD_IND (O31). -/

namespace Sys2Proof.Claims

open Sys2Proof.Machine

/-! ### The logical word (`30_encoding.md` R112) -/

theorem toNat_append_eq_add {n m : Nat} (x : BitVec n) (y : BitVec m) :
    (x ++ y).toNat = x.toNat * 2 ^ m + y.toNat := by
  rw [BitVec.toNat_append, ← Nat.shiftLeft_add_eq_or_of_lt y.isLt, Nat.shiftLeft_eq]

/-- The model joins the fields of a slot; R112 adds them up. -/
theorem word_eq_wordOf (f : Fields) : f.word = wordOf f := by
  have hsum : f.word.toNat = f.opcode.toNat + f.dst.toNat * 2 ^ 8 + f.src.toNat * 2 ^ 12 +
      f.offset.toNat * 2 ^ 16 + f.imm.toNat * 2 ^ 32 := by
    simp only [Fields.word, toNat_append_eq_add]
    omega
  rw [wordOf, ← hsum, BitVec.ofNat_toNat, BitVec.setWidth_eq]

/-! ### A legacy row -/

/-- `mk` makes the instructions of a legacy row whose opcodes are `op` with the bits of a size: each is read from every
slot with such an opcode, keeps all fields of the slot, and raises the fault of R500 (`49_legacy_packet.md`). -/
structure LegacyRow (mk : MemSize → BitVec 4 → BitVec 4 → BitVec 16 → BitVec 32 → Instr) (op : BitVec 8) : Prop where
  fields : ∀ size dst src offset imm, (mk size dst src offset imm).fields = ⟨op ||| size.bits, dst, src, offset, imm⟩
  decodes : ∀ (disp : LocalCallDisp) (f : Fields) (next : Option Fields) (size : MemSize),
    f.opcode = op ||| size.bits → decodeFields disp f next = f.legacy mk size
  raises : ∀ size dst src offset imm (s : State), exec (mk size dst src offset imm) s =
    s.attempt (s.raiseLegacy (mk size dst src offset imm))

theorem ldAbs_legacyRow : LegacyRow .ldAbs 0x20 where
  fields _ _ _ _ _ := rfl
  decodes _ _ _ size hop := by cases size <;> simp [decodeFields, Fields.decodeLd, MemSize.bits, hop]
  raises _ _ _ _ _ _ := rfl

theorem ldInd_legacyRow : LegacyRow .ldInd 0x40 where
  fields _ _ _ _ _ := rfl
  decodes _ _ _ size hop := by cases size <;> simp [decodeFields, Fields.decodeLd, MemSize.bits, hop]
  raises _ _ _ _ _ _ := rfl

/-- The two bits outside the mask 0xe7 are the size bits of an opcode, and each of their values is a size
(`30_encoding.md` R131). -/
theorem exists_size_of_opcode (b : BitVec 8) : ∃ size : MemSize, b = b &&& 0xe7 ||| size.bits := by
  have hbits : ∀ b : BitVec 8, b &&& 0x18 ∈ [MemSize.w, .h, .b, .dw].map MemSize.bits := by decide
  obtain ⟨size, -, hsize⟩ := List.mem_map.mp (hbits b)
  refine ⟨size, ?_⟩
  rw [hsize, ← BitVec.and_or_distrib_left]
  exact BitVec.and_allOnes.symm

/-! ### How a legacy row faults -/

/-- A step whose slots decode is the step of the instruction (`00_scope.md` R12). -/
theorem step_of_decode_ok {s : State} {slot : Slot} {rest : List Slot} {i : Instr} (hs : s.status = .running)
    (hpc : 0 ≤ s.pc) (hp : s.prog.drop s.pc.toNat = slot :: rest)
    (hd : decode s.cfg.endian s.cfg.localCallDisp (slot :: rest) = .ok i) : step s = exec i s := by
  have hf : s.fetch = .ok i := by
    simp only [State.fetch, if_neg (Int.not_lt.mpr hpc), hp, hd]
  simp only [step, hs, hf]

section LegacyRow

variable {mk : MemSize → BitVec 4 → BitVec 4 → BitVec 16 → BitVec 32 → Instr} {op : BitVec 8}

theorem LegacyRow.exec_eq (h : LegacyRow mk op) (s : State) (size : MemSize) (dst src : BitVec 4)
    (offset : BitVec 16) (imm : BitVec 32) : exec (mk size dst src offset imm) s =
      .next (faulted s (.illegalInstruction s.pc (wordOf ⟨op ||| size.bits, dst, src, offset, imm⟩) none)) := by
  rw [h.raises, State.raiseLegacy, State.attempt_error, word_eq_wordOf, h.fields]
  rfl

/-- The word in the fault of the instruction is the word of the slot it was read from. -/
theorem LegacyRow.step_eq (h : LegacyRow mk op) {s : State} {slot : Slot} {rest : List Slot}
    (hs : s.status = .running) (hpc : 0 ≤ s.pc) (hp : s.prog.drop s.pc.toNat = slot :: rest)
    (hop : slot.b0 &&& 0xe7 = op) :
    step s = .next (faulted s (.illegalInstruction s.pc (wordOf (slot.fields s.cfg.endian)) none)) := by
  obtain ⟨size, hsize⟩ := exists_size_of_opcode slot.b0
  rw [hop, ← Slot.fields_opcode s.cfg.endian] at hsize
  rw [step_of_decode_ok hs hpc hp (h.decodes _ _ _ size hsize), h.exec_eq, ← hsize]

end LegacyRow

/-- Settles O31: both rows are legacy rows, and a legacy row faults in every step and in every state. -/
theorem legacyAlwaysIllegal : Obligations.LegacyAlwaysIllegal := by
  refine ⟨fun s slot rest hs hpc hp hop => ?_, fun s size dst src offset imm =>
    ⟨ldAbs_legacyRow.exec_eq s size dst src offset imm, ldInd_legacyRow.exec_eq s size dst src offset imm⟩⟩
  rcases hop with habs | hind
  · exact ldAbs_legacyRow.step_eq hs hpc hp habs
  · exact ldInd_legacyRow.step_eq hs hpc hp hind

end Sys2Proof.Claims
end

section
/-! PROOFS. The family of `60_exceptions.md`: every instruction reads its registers before anything else of it can fail,
and which fault it can raise after that, said once over all of `exec`; what a faulting step is. From these the faults of
registers (O12), helper tables (O15), call depth (O18), accesses (O22), platform references (O30) and the fetch (O42),
that no arithmetic instruction faults (O7), and that a fault has no other effect (O37). -/

namespace Sys2Proof.Claims

open Sys2Proof.Machine

/-! ### Which fault an instruction can raise -/

/-- The registers an instruction reads in a state: those of `readsOf`, and of a helper call the arguments of the helper
in its table, none where the table has no such helper (`60_exceptions.md` R515, R522). -/
def readsIn (s : State) (i : Instr) : List Reg :=
  match helperOf i with
  | none => readsOf i
  | some (tb, imm) =>
    match (helperTable s.cfg tb).lookup imm with
    | none => []
    | some h => callReads h.arity.val

theorem readsIn_of_not_helper {i : Instr} (s : State) (hi : helperOf i = none) : readsIn s i = readsOf i := by
  simp only [readsIn, hi]

theorem readsIn_of_known_helper {i : Instr} {s : State} {tb : HelperTable} {imm : BitVec 32} {h : Helper}
    (hi : helperOf i = some (tb, imm)) (hl : (helperTable s.cfg tb).lookup imm = some h) :
    readsIn s i = callReads h.arity.val := by
  simp only [readsIn, hi, hl]

theorem readsIn_of_unknown_helper {i : Instr} {s : State} {tb : HelperTable} {imm : BitVec 32}
    (hi : helperOf i = some (tb, imm)) (hl : (helperTable s.cfg tb).lookup imm = none) : readsIn s i = [] := by
  simp only [readsIn, hi, hl]

/-- The faults an instruction can raise, each with the record of R511 and the case in which it is raised. -/
inductive Raises : Instr → State → FaultInfo → Prop
  /-- A register it reads holds no value (R515). -/
  | unwritten {i s r} (hr : firstUnwritten s (readsIn s i) = some r) : Raises i s (.unwrittenRegister s.pc r)
  /-- Its access is not admitted (R516). -/
  | denied {i s r base offset n kind why} (ha : accessOf i = some (r, offset, n, kind))
      (hb : s.regs.get r = some base) (hd : denial s.cfg (effectiveAddress base offset) n kind = some why) :
      Raises i s (.memoryFault s.pc (effectiveAddress base offset) n kind why)
  /-- Its helper is not in the table (R517). -/
  | unknownHelper {i s tb imm} (hi : helperOf i = some (tb, imm))
      (hl : (helperTable s.cfg tb).lookup imm = none) : Raises i s (.unknownHelper s.pc imm tb)
  /-- Its helper failed (R520). -/
  | helperFailed {i s tb imm} (hi : helperOf i = some (tb, imm)) : Raises i s (.helperFault s.pc imm)
  /-- It is a program-local call at the depth limit (R518). -/
  | tooDeep {s} (offset : BitVec 16) (imm : BitVec 32) (hd : s.cfg.maxCallDepth ≤ s.frames.length + 1) :
      Raises (.callLocal offset imm) s (.callDepthExceeded s.pc)
  /-- It is a wide load of something the platform does not define (R519). -/
  | unresolved {i s} (subtype : RefSubtype) (arg : BitVec 32) (hi : i.fields.opcode = 0x18) :
      Raises i s (.unresolvedReference s.pc subtype arg)
  /-- It is a legacy packet access, which decodes and is refused (`49_legacy_packet.md` R500). -/
  | legacy {i s} (hi : i.fields.opcode &&& 7 = 0) : Raises i s (.illegalInstruction s.pc i.fields.word none)

theorem raises_of_denied {i : Instr} {s : State} {r : Reg} {base : Word} {offset : BitVec 16} {n : MemSize}
    {kind : AccessKind} {k : FaultInfo} (ha : accessOf i = some (r, offset, n, kind)) (hb : s.regs.get r = some base)
    (hd : Denied s (effectiveAddress base offset) n kind k) : Raises i s k := by
  obtain ⟨why, hwhy, rfl⟩ := hd
  exact .denied ha hb hwhy

/-! ### Reading registers comes first -/

/-- `x` starts by reading the registers `rs`, in order: it raises `UnwrittenRegister` for the first that holds no value.
Where all hold one, every fault of it is a `later` one (`60_exceptions.md` R515, R522), and without a fault its answer is
a `good` one. -/
structure ReadsFirst {α : Type} (s : State) (rs : List Reg) (later : FaultInfo → Prop) (good : α → Prop)
    (x : Except FaultInfo α) : Prop where
  unwritten : ∀ r, firstUnwritten s rs = some r → x = .error (.unwrittenRegister s.pc r)
  faults : firstUnwritten s rs = none → ∀ k, x = .error k → later k
  completes : ∀ a, x = .ok a → good a

section ReadsFirst

variable {α β : Type} {s : State} {rs : List Reg} {later : FaultInfo → Prop} {good : α → Prop} {good' : β → Prop}
  {x : Except FaultInfo α}

theorem firstUnwritten_cons_of_none {r : Reg} (hr : s.regs.get r = none) :
    firstUnwritten s (r :: rs) = some r := by
  simp [firstUnwritten, hr]

theorem firstUnwritten_cons_of_some {r : Reg} {v : Word} (hr : s.regs.get r = some v) :
    firstUnwritten s (r :: rs) = firstUnwritten s rs := by
  simp [firstUnwritten, hr]

theorem readsFirst_nil (hx : ∀ k, x = .error k → later k) (hgood : ∀ a, x = .ok a → good a) :
    ReadsFirst s [] later good x :=
  ⟨nofun, fun _ => hx, hgood⟩

theorem readsFirst_ok {a : α} (ha : good a) : ReadsFirst s [] later good (.ok a) :=
  readsFirst_nil nofun fun _ h => Except.ok.inj h ▸ ha

theorem readsFirst_error {k : FaultInfo} (hk : later k) : ReadsFirst s [] later good (.error k) :=
  readsFirst_nil (fun _ h => Except.error.inj h ▸ hk) nofun

/-- A register read, before what reads the rest. -/
theorem readsFirst_read {r : Reg} {f : Word → Except FaultInfo α}
    (h : ∀ v, s.regs.get r = some v → ReadsFirst s rs later good (f v)) :
    ReadsFirst s (r :: rs) later good (s.readReg r >>= f) := by
  cases hr : s.regs.get r with
  | none =>
    have hfirst := firstUnwritten_cons_of_none (rs := rs) hr
    rw [State.readReg_none hr]
    exact ⟨fun q hq => by cases hfirst.symm.trans hq; rfl, fun hn => (nomatch hfirst.symm.trans hn), nofun⟩
  | some v =>
    have hfirst := firstUnwritten_cons_of_some (rs := rs) hr
    rw [State.readReg_some hr]
    exact ⟨fun q hq => (h v hr).unwritten q (hfirst ▸ hq), fun hn => (h v hr).faults (hfirst ▸ hn),
      (h v hr).completes⟩

/-- What follows may fail in ways of its own. -/
theorem ReadsFirst.bind {f : α → Except FaultInfo β} (h : ReadsFirst s rs later good x)
    (hf : ∀ a k, f a = .error k → later k) (hgood : ∀ a b, good a → f a = .ok b → good' b) :
    ReadsFirst s rs later good' (x >>= f) where
  unwritten r hr := by
    rw [h.unwritten r hr]
    rfl
  faults hn k hk := by
    rcases bind_error hk with hx | ⟨a, -, ha⟩
    · exact h.faults hn k hx
    · exact hf a k ha
  completes b hb := by
    obtain ⟨a, ha, hfa⟩ := bind_ok hb
    exact hgood a b (h.completes a ha) hfa

/-- The arguments of a helper are read lowest first (`60_exceptions.md` R515). -/
theorem readRegs_readsFirst (rs : List Reg) : ReadsFirst s rs later (fun _ => True) (s.readRegs rs) := by
  induction rs with
  | nil => exact readsFirst_ok trivial
  | cons r rs ih => exact readsFirst_read fun v _ => ih.bind (fun _ _ hk => nomatch hk) fun _ _ _ _ => trivial

/-- A part that can fail, after which nothing can. -/
theorem readsFirst_then_ok {f : α → β} (hx : ∀ k, x = .error k → later k) (hgood : ∀ a, x = .ok a → good' (f a)) :
    ReadsFirst s [] later good' (x >>= fun a => .ok (f a)) :=
  (readsFirst_nil hx hgood).bind (fun _ _ hk => nomatch hk) fun _ _ ha hb => Except.ok.inj hb ▸ ha

end ReadsFirst

/-! ### The rule of each family -/

/-- Completing keeps the status, but where EXIT ends the run (`10_state.md` R42). -/
def StatusAfter (i : Instr) (s t : State) : Prop := t.status = s.status ∨ i = .exit ∧ ∃ v, t.status = .exited v

section Rules

variable {i : Instr} {s : State} {dst src : Reg} {offset : BitVec 16} {imm : BitVec 32} {n : MemSize}

theorem load_readsFirst {extend : Word → Word} (ha : accessOf i = some (src, offset, n, .read)) :
    ReadsFirst s [src] (Raises i s) (StatusAfter i s) (s.load dst src offset n extend) :=
  readsFirst_read fun _ hb => readsFirst_then_ok (fun _ hk => raises_of_denied ha hb (State.memRead_error hk))
    fun _ _ => .inl rfl

theorem memWrite_status {a v : Word} {t : State} (h : s.memWrite a n v = .ok t) : t.status = s.status := by
  obtain ⟨-, rfl⟩ := State.memWrite_ok h
  rfl

theorem storeImm_readsFirst (ha : accessOf i = some (dst, offset, n, .write)) :
    ReadsFirst s [dst] (Raises i s) (StatusAfter i s) (s.storeImm dst offset imm n) :=
  readsFirst_read fun _ hb => readsFirst_then_ok (fun _ hk => raises_of_denied ha hb (State.memWrite_error hk))
    fun _ ht => .inl (memWrite_status ht :)

theorem storeReg_readsFirst (ha : accessOf i = some (dst, offset, n, .write)) :
    ReadsFirst s [dst, src] (Raises i s) (StatusAfter i s) (s.storeReg dst src offset n) :=
  readsFirst_read fun _ hb => readsFirst_read fun _ _ =>
    readsFirst_then_ok (fun _ hk => raises_of_denied ha hb (State.memWrite_error hk))
      fun _ ht => .inl (memWrite_status ht :)

theorem atomicEvent_status {a : Word} {f : Word → Option Word} {p : Word × State}
    (h : s.atomicEvent a n f = .ok p) : p.2.status = s.status := by
  obtain ⟨-, -, ⟨_, -, ht⟩ | ⟨-, ht⟩⟩ := State.atomicEvent_ok h
  · rw [ht]
    rfl
  · rw [ht]
    rfl

/-- The end of an atomic operation: its event, and then `g`, which cannot fail. -/
theorem event_readsFirst {base : Word} {f : Word → Option Word} {g : Word × State → State}
    (ha : accessOf i = some (dst, offset, n, .atomic)) (hg : ∀ p, (g p).status = p.2.status)
    (hb : s.regs.get dst = some base) :
    ReadsFirst s [] (Raises i s) (StatusAfter i s)
      (s.atomicEvent (effectiveAddress base offset) n f >>= fun p => .ok (g p)) :=
  readsFirst_then_ok (fun _ hk => raises_of_denied ha hb (State.atomicEvent_error hk))
    fun p hp => .inl ((hg p).trans (atomicEvent_status hp))

/-- The table comes before the arguments, and the helper's own failure after them (`60_exceptions.md` R522). -/
theorem callHelper_readsFirst {tb : HelperTable} (hi : helperOf i = some (tb, imm)) :
    ReadsFirst s (readsIn s i) (Raises i s) (StatusAfter i s) (s.callHelper tb imm) := by
  cases hl : (helperTable s.cfg tb).lookup imm with
  | none =>
    simp only [readsIn_of_unknown_helper hi hl, State.callHelper, hl]
    exact readsFirst_error (.unknownHelper hi hl)
  | some h =>
    simp only [readsIn_of_known_helper hi hl, State.callHelper, hl]
    refine (readRegs_readsFirst _).bind (fun args k hk => ?_) fun args t _ ht => ?_
    · split at hk
      · cases hk
        exact .helperFailed hi
      · cases hk
    · split at ht
      · cases ht
      · cases ht
        exact .inl rfl

theorem callLocal_readsFirst :
    ReadsFirst s [] (Raises (.callLocal offset imm) s) (StatusAfter (.callLocal offset imm) s)
      (s.callLocal (callDisplacement s.cfg offset imm)) := by
  refine readsFirst_nil (fun k hk => ?_) fun t ht => ?_
  · obtain ⟨hd, rfl⟩ := State.callLocal_error hk
    exact .tooDeep offset imm hd
  · obtain ⟨-, rfl⟩ := State.callLocal_ok ht
    exact .inl rfl

theorem leaveOrFinish_readsFirst : ReadsFirst s [.r0] (Raises .exit s) (StatusAfter .exit s) s.leaveOrFinish := by
  refine readsFirst_read fun v _ => ?_
  split
  · exact readsFirst_ok (.inr ⟨rfl, v, rfl⟩)
  · exact readsFirst_ok (.inl rfl)

theorem loadRef_readsFirst {subtype : RefSubtype} {v : Except FaultInfo Word} (hi : i.fields.opcode = 0x18)
    (hv : ∀ k, v = .error k → k = .unresolvedReference s.pc subtype imm) :
    ReadsFirst s [] (Raises i s) (StatusAfter i s) (s.loadRef dst v) :=
  readsFirst_then_ok (fun k hk => hv k hk ▸ .unresolved subtype imm hi) fun _ _ => .inl rfl

end Rules

/-- Every instruction is an attempt that reads its registers first and raises no other faults than `Raises` says. -/
theorem exec_readsFirst (i : Instr) (s : State) :
    ∃ x, exec i s = s.attempt x ∧ ReadsFirst s (readsIn s i) (Raises i s) (StatusAfter i s) x := by
  cases i with
  | mov64K _ _ | mov32K _ _ | lddw _ _ _ | ja _ | ja32 _ =>
    exact ⟨.ok _, rfl, readsFirst_ok (.inl rfl)⟩
  | add64K _ _ | sub64K _ _ | mul64K _ _ | div64K _ _ | sdiv64K _ _ | or64K _ _ | and64K _ _ | lsh64K _ _
  | rsh64K _ _ | mod64K _ _ | smod64K _ _ | xor64K _ _ | arsh64K _ _ | mov64X _ _ | movsx64From8 _ _
  | movsx64From16 _ _ | movsx64From32 _ _ | mov32X _ _ | movsx32From8 _ _ | movsx32From16 _ _ | neg64 _
  | add32K _ _ | sub32K _ _ | mul32K _ _ | div32K _ _ | sdiv32K _ _ | or32K _ _ | and32K _ _ | lsh32K _ _
  | rsh32K _ _ | mod32K _ _ | smod32K _ _ | xor32K _ _ | arsh32K _ _ | neg32 _ | le16 _ | be16 _ | bswap16 _
  | le32 _ | be32 _ | bswap32 _ | le64 _ | be64 _ | bswap64 _
  | jeq64K _ _ _ | jgt64K _ _ _ | jge64K _ _ _ | jset64K _ _ _ | jne64K _ _ _ | jsgt64K _ _ _ | jsge64K _ _ _
  | jlt64K _ _ _ | jle64K _ _ _ | jslt64K _ _ _ | jsle64K _ _ _ | jeq32K _ _ _ | jgt32K _ _ _ | jge32K _ _ _
  | jset32K _ _ _ | jne32K _ _ _ | jsgt32K _ _ _ | jsge32K _ _ _ | jlt32K _ _ _ | jle32K _ _ _ | jslt32K _ _ _
  | jsle32K _ _ _ =>
    exact ⟨_, rfl, readsFirst_read fun _ _ => readsFirst_ok (.inl rfl)⟩
  | add64X _ _ | sub64X _ _ | mul64X _ _ | div64X _ _ | sdiv64X _ _ | or64X _ _ | and64X _ _ | lsh64X _ _
  | rsh64X _ _ | mod64X _ _ | smod64X _ _ | xor64X _ _ | arsh64X _ _ | add32X _ _ | sub32X _ _ | mul32X _ _
  | div32X _ _ | sdiv32X _ _ | or32X _ _ | and32X _ _ | lsh32X _ _ | rsh32X _ _ | mod32X _ _ | smod32X _ _
  | xor32X _ _ | arsh32X _ _
  | jeq64X _ _ _ | jgt64X _ _ _ | jge64X _ _ _ | jset64X _ _ _ | jne64X _ _ _ | jsgt64X _ _ _ | jsge64X _ _ _
  | jlt64X _ _ _ | jle64X _ _ _ | jslt64X _ _ _ | jsle64X _ _ _ | jeq32X _ _ _ | jgt32X _ _ _ | jge32X _ _ _
  | jset32X _ _ _ | jne32X _ _ _ | jsgt32X _ _ _ | jsge32X _ _ _ | jlt32X _ _ _ | jle32X _ _ _ | jslt32X _ _ _
  | jsle32X _ _ _ =>
    exact ⟨_, rfl, readsFirst_read fun _ _ => readsFirst_read fun _ _ => readsFirst_ok (.inl rfl)⟩
  | ldxb _ _ _ | ldxh _ _ _ | ldxw _ _ _ | ldxdw _ _ _ | ldxsb _ _ _ | ldxsh _ _ _ | ldxsw _ _ _ =>
    exact ⟨_, rfl, load_readsFirst rfl⟩
  | stb _ _ _ | sth _ _ _ | stw _ _ _ | stdw _ _ _ =>
    exact ⟨_, rfl, storeImm_readsFirst rfl⟩
  | stxb _ _ _ | stxh _ _ _ | stxw _ _ _ | stxdw _ _ _ =>
    exact ⟨_, rfl, storeReg_readsFirst rfl⟩
  | atomicAdd32 _ _ _ | atomicOr32 _ _ _ | atomicAnd32 _ _ _ | atomicXor32 _ _ _ | atomicAdd64 _ _ _
  | atomicOr64 _ _ _ | atomicAnd64 _ _ _ | atomicXor64 _ _ _ | atomicFetchAdd32 _ _ _ | atomicFetchOr32 _ _ _
  | atomicFetchAnd32 _ _ _ | atomicFetchXor32 _ _ _ | atomicXchg32 _ _ _ | atomicFetchAdd64 _ _ _
  | atomicFetchOr64 _ _ _ | atomicFetchAnd64 _ _ _ | atomicFetchXor64 _ _ _ | atomicXchg64 _ _ _ =>
    exact ⟨_, rfl, readsFirst_read fun _ hb => readsFirst_read fun _ _ => event_readsFirst rfl (fun _ => rfl) hb⟩
  | atomicCmpxchg32 _ _ _ | atomicCmpxchg64 _ _ _ =>
    exact ⟨_, rfl, readsFirst_read fun _ hb => readsFirst_read fun _ _ => readsFirst_read fun _ _ =>
      event_readsFirst rfl (fun _ => rfl) hb⟩
  | callHelper _ | callBtf _ =>
    exact ⟨_, rfl, callHelper_readsFirst rfl⟩
  | callLocal _ _ =>
    exact ⟨_, rfl, callLocal_readsFirst⟩
  | exit =>
    exact ⟨_, rfl, leaveOrFinish_readsFirst⟩
  | ldMapFd _ _ | ldVarAddr _ _ | ldCodeAddr _ _ | ldMapIdx _ _ =>
    exact ⟨_, rfl, loadRef_readsFirst rfl fun _ hk => (State.resolve_error hk).2⟩
  | ldMapValFd _ _ _ | ldMapValIdx _ _ _ =>
    exact ⟨_, rfl, loadRef_readsFirst rfl fun _ hk => (State.mapValue_error hk).1⟩
  | ldAbs size _ _ _ _ | ldInd size _ _ _ _ =>
    exact ⟨_, rfl, readsFirst_error (.legacy (by cases size <;> simp [Instr.fields, MemSize.bits]))⟩

theorem exec_of_unwritten {i : Instr} {s : State} {r : Reg} (h : firstUnwritten s (readsIn s i) = some r) :
    exec i s = .next (faulted s (.unwrittenRegister s.pc r)) := by
  obtain ⟨x, hx, hreads⟩ := exec_readsFirst i s
  rw [hx, hreads.unwritten r h]
  rfl

/-- An instruction that leaves a running state faulted raised that fault, and it changed nothing but the status. -/
theorem exec_faulted {i : Instr} {s t : State} {k : FaultInfo} (hs : s.status = .running) (h : exec i s = .next t)
    (hk : t.status = .faulted k) : t = s.raise k ∧ Raises i s k := by
  obtain ⟨x, hx, hreads⟩ := exec_readsFirst i s
  obtain rfl | ⟨k', rfl, rfl⟩ := State.attempt_next (hx.symm.trans h)
  · obtain hkept | ⟨-, v, hend⟩ := hreads.completes t rfl
    · cases hk.symm.trans (hkept.trans hs)
    · cases hk.symm.trans hend
  · cases hk
    refine ⟨rfl, ?_⟩
    cases hfirst : firstUnwritten s (readsIn s i) with
    | none => exact hreads.faults hfirst k rfl
    | some r => exact Except.error.inj (hreads.unwritten r hfirst) ▸ .unwritten hfirst

/-! ### Unwritten registers -/

/-- Both directions of R515 for an instruction that reads the registers `rs`. -/
theorem unwrittenRegister_exact {i : Instr} {s : State} {rs : List Reg} (hrs : readsIn s i = rs) :
    (∀ r, firstUnwritten s rs = some r → exec i s = .next (faulted s (.unwrittenRegister s.pc r))) ∧
      ∀ (t : State) (p : Int) (r : Reg), s.status = .running → exec i s = .next t →
        t.status = .faulted (.unwrittenRegister p r) → firstUnwritten s rs = some r ∧ p = s.pc := by
  subst hrs
  refine ⟨fun r => exec_of_unwritten, fun t p r hs h hk => ?_⟩
  obtain ⟨-, hraises⟩ := exec_faulted hs h hk
  cases hraises with
  | unwritten hr => exact ⟨hr, rfl⟩

/-- Settles O12: an instruction reads `readsIn` first, which is its list or the arguments of its helper. -/
theorem unwrittenReads : Obligations.UnwrittenReads :=
  ⟨fun _ s hi => unwrittenRegister_exact (readsIn_of_not_helper s hi),
    fun _ _ _ _ _ hi hl => unwrittenRegister_exact (readsIn_of_known_helper hi hl)⟩

/-! ### Helper tables and call depth -/

theorem exec_of_unknown_helper {i : Instr} {s : State} {tb : HelperTable} {imm : BitVec 32}
    (hexec : exec i s = s.attempt (s.callHelper tb imm)) (hl : (helperTable s.cfg tb).lookup imm = none) :
    exec i s = .next (faulted s (.unknownHelper s.pc imm tb)) := by
  rw [hexec, State.callHelper, hl]
  rfl

/-- Settles O15: the look-up is the first thing a helper call does, and no other instruction raises its fault. -/
theorem unknownHelperFirst : Obligations.UnknownHelperFirst := by
  refine ⟨fun s imm => exec_of_unknown_helper (tb := .helpers) rfl,
    fun s imm => exec_of_unknown_helper (tb := .btfHelpers) rfl, fun i s t p imm tb hs h hk => ?_⟩
  obtain ⟨-, hraises⟩ := exec_faulted hs h hk
  cases hraises with
  | unknownHelper hi hl => exact ⟨hi, rfl, hl⟩

/-- Settles O18: the call checks the depth before anything else, and no other instruction raises its fault. -/
theorem callDepthLimit : Obligations.CallDepthLimit := by
  refine ⟨fun s offset imm hdeep => ?_, fun i s t p hs h hk => ?_, fun s t offset imm hs h ht => ?_⟩
  · have hcall : s.callLocal (callDisplacement s.cfg offset imm) = .error (.callDepthExceeded s.pc) := if_pos hdeep
    exact congrArg s.attempt hcall
  · obtain ⟨-, hraises⟩ := exec_faulted hs h hk
    cases hraises with
    | tooDeep offset imm hd => exact ⟨⟨offset, imm, rfl⟩, rfl, hd⟩
  · obtain hok | ⟨k, -, rfl⟩ := State.attempt_next h
    · obtain ⟨hlt, rfl⟩ := State.callLocal_ok hok
      exact hlt
    · cases ht

/-! ### Accesses -/

/-- Settles O22: the fault of a denied access is that of O55, and no other `MemoryFault` is raised. -/
theorem memoryFaultReasons : Obligations.MemoryFaultReasons := by
  intro i s b base offset n k ha hw hb
  obtain ⟨haddr, hformula⟩ := effectiveAddressFormula
  obtain ⟨-, -, haccess, -⟩ := hformula i s b base offset n k ha
  obtain ⟨-, hdenied⟩ := haccess hw hb
  refine ⟨hdenied, fun t p a m k' why hs h hk => ?_⟩
  obtain ⟨-, hraises⟩ := exec_faulted hs h hk
  cases hraises with
  | denied ha' hb' hd =>
    cases ha.symm.trans ha'
    cases hb.symm.trans hb'
    exact ⟨rfl, haddr base offset, rfl, rfl, denial_eq_some_iff.mp hd⟩

/-! ### Platform references -/

theorem wideRef_of_exec {mk : Reg → BitVec 32 → Instr} {subtype : RefSubtype} {f : State → BitVec 32 → Option Word}
    (hexec : ∀ s dst imm, exec (mk dst imm) s = s.attempt (s.loadRef dst (s.resolve subtype imm (f s imm)))) :
    WideRef mk subtype f := by
  refine fun s dst imm => ⟨fun a ha => ?_, fun hn => ?_⟩
  · rw [hexec, ha]
    rfl
  · rw [hexec, hn]
    rfl

/-- `next_imm` is taken as unsigned (`48_imm64.md` R483, R487). -/
theorem add_zext32 (a : Word) (nextImm : BitVec 32) :
    a + zext32 nextImm = BitVec.ofNat 64 (a.toNat + nextImm.toNat) := by
  rw [BitVec.ofNat_add, BitVec.ofNat_toNat, BitVec.setWidth_eq, BitVec.ofNat_toNat]
  rfl

theorem mapValue_of_defined {s : State} {m a : Word} (subtype : RefSubtype) (imm nextImm : BitVec 32)
    (ha : s.cfg.mapVal.lookup m = some a) :
    s.mapValue subtype imm (some m) nextImm = .ok (BitVec.ofNat 64 (a.toNat + nextImm.toNat)) := by
  rw [State.mapValue, State.resolve, ← add_zext32]
  simp only [State.resolve, Except.bind, bind, ha]
  rfl

theorem mapValue_of_undefined {s : State} {map : Option Word} (subtype : RefSubtype) (imm nextImm : BitVec 32)
    (hn : map = none ∨ ∃ m, map = some m ∧ s.cfg.mapVal.lookup m = none) :
    s.mapValue subtype imm map nextImm = .error (.unresolvedReference s.pc subtype imm) := by
  obtain rfl | ⟨m, rfl, hn⟩ := hn
  · rfl
  · simp only [State.mapValue, State.resolve, bind, Except.bind, hn]

theorem wideMapValue_of_exec {mk : Reg → BitVec 32 → BitVec 32 → Instr} {subtype : RefSubtype}
    {f : State → BitVec 32 → Option Word}
    (hexec : ∀ s dst imm nextImm, exec (mk dst imm nextImm) s =
      s.attempt (s.loadRef dst (s.mapValue subtype imm (f s imm) nextImm))) : WideMapValue mk subtype f := by
  refine fun s dst imm nextImm => ⟨fun m a hm ha => ?_, fun hn => ?_⟩
  · rw [hexec, hm, mapValue_of_defined subtype imm nextImm ha]
    rfl
  · rw [hexec, mapValue_of_undefined subtype imm nextImm hn]
    rfl

/-- Settles O30: each instruction asks its own function of the platform in `exec`. -/
theorem platformReferences : Obligations.PlatformReferences :=
  ⟨wideRef_of_exec fun _ _ _ => rfl, wideMapValue_of_exec fun _ _ _ _ => rfl, wideRef_of_exec fun _ _ _ => rfl,
    wideRef_of_exec fun _ _ _ => rfl, wideRef_of_exec fun _ _ _ => rfl, wideMapValue_of_exec fun _ _ _ _ => rfl⟩

/-! ### Arithmetic -/

theorem isArithmetic_eq_false_of_accessOf {i : Instr} {a : Reg × BitVec 16 × MemSize × AccessKind}
    (ha : accessOf i = some a) : isArithmetic i = false := by
  cases i with
  | ldxb _ _ _ | ldxh _ _ _ | ldxw _ _ _ | ldxdw _ _ _ | ldxsb _ _ _ | ldxsh _ _ _ | ldxsw _ _ _
  | stb _ _ _ | sth _ _ _ | stw _ _ _ | stdw _ _ _ | stxb _ _ _ | stxh _ _ _ | stxw _ _ _ | stxdw _ _ _
  | atomicAdd32 _ _ _ | atomicOr32 _ _ _ | atomicAnd32 _ _ _ | atomicXor32 _ _ _ | atomicAdd64 _ _ _
  | atomicOr64 _ _ _ | atomicAnd64 _ _ _ | atomicXor64 _ _ _ | atomicFetchAdd32 _ _ _ | atomicFetchOr32 _ _ _
  | atomicFetchAnd32 _ _ _ | atomicFetchXor32 _ _ _ | atomicXchg32 _ _ _ | atomicFetchAdd64 _ _ _
  | atomicFetchOr64 _ _ _ | atomicFetchAnd64 _ _ _ | atomicFetchXor64 _ _ _ | atomicXchg64 _ _ _
  | atomicCmpxchg32 _ _ _ | atomicCmpxchg64 _ _ _ => simp [isArithmetic, Instr.fields]
  | _ => cases ha

theorem isArithmetic_eq_false_of_helperOf {i : Instr} {call : HelperTable × BitVec 32} (hi : helperOf i = some call) :
    isArithmetic i = false := by
  unfold helperOf at hi
  split at hi
  · simp [isArithmetic, Instr.fields]
  · simp [isArithmetic, Instr.fields]
  · cases hi

theorem helperOf_of_isArithmetic {i : Instr} (hi : isArithmetic i = true) : helperOf i = none := by
  cases hh : helperOf i with
  | none => rfl
  | some call => cases hi.symm.trans (isArithmetic_eq_false_of_helperOf hh)

/-- The one fault of an arithmetic instruction is that of a register it reads. -/
theorem Raises.unwritten_of_isArithmetic {i : Instr} {s : State} {k : FaultInfo} (h : Raises i s k)
    (hi : isArithmetic i = true) : firstUnwritten s (readsIn s i) ≠ none := by
  cases h with
  | unwritten hr => simp [hr]
  | denied ha _ _ => cases hi.symm.trans (isArithmetic_eq_false_of_accessOf ha)
  | unknownHelper hh _ | helperFailed hh => cases hi.symm.trans (isArithmetic_eq_false_of_helperOf hh)
  | tooDeep _ _ _ => simp [isArithmetic, Instr.fields] at hi
  | unresolved _ _ hop => simp [isArithmetic, hop] at hi
  | legacy hop =>
    rw [isArithmetic, hop] at hi
    exact absurd hi (by decide)

/-- R521: an arithmetic instruction whose registers hold values completes, and the execution goes on. -/
theorem exec_completes_of_isArithmetic {i : Instr} {s : State} (hi : isArithmetic i = true)
    (hw : firstUnwritten s (readsOf i) = none) : ∃ t, exec i s = .next t ∧ t.status = s.status := by
  rw [← readsIn_of_not_helper s (helperOf_of_isArithmetic hi)] at hw
  obtain ⟨x, hx, hreads⟩ := exec_readsFirst i s
  cases x with
  | ok t =>
    obtain hkept | ⟨rfl, -⟩ := hreads.completes t rfl
    · exact ⟨t, hx, hkept⟩
    · cases hi
  | error k => exact absurd hw ((hreads.faults hw k rfl).unwritten_of_isArithmetic hi)

section ByZero

variable {w : Nat} (d : BitVec w)

theorem quotientOf_zero : quotientOf d 0 = 0 := if_pos BitVec.toNat_zero
theorem signedQuotientOf_zero : signedQuotientOf d 0 = 0 := if_pos BitVec.toNat_zero
theorem remainderOf_zero : remainderOf d 0 = d := if_pos BitVec.toNat_zero
theorem signedRemainderOf_zero : signedRemainderOf d 0 = d := if_pos BitVec.toNat_zero

end ByZero

/-- Writing what a register holds changes nothing but pc. -/
theorem wrote_of_get {s : State} {dst : Reg} {d : Word} (hd : s.regs.get dst = some d) :
    wrote s dst d 1 = jumped s (s.pc + 1) := by
  have hput : s.regs.put dst (some d) = s.regs := by
    rw [← hd]
    cases dst <;> rfl
  rw [wrote, hput]
  rfl

/-- What the two forms of a 64-bit operation write where their divisor is zero. -/
theorem exec64_by_zero {mkK : Reg → BitVec 32 → Instr} {mkX : Reg → Reg → Instr} {f : Word → Word → Word} {s : State}
    {dst : Reg} {d v : Word} (hK : Imm64 mkK f) (hX : Reg64 mkX f) (hd : s.regs.get dst = some d) (hf : f d 0 = v) :
    exec (mkK dst 0) s = .next (wrote s dst v 1) ∧
      ∀ src, s.regs.get src = some 0 → exec (mkX dst src) s = .next (wrote s dst v 1) := by
  subst hf
  exact ⟨hK s dst 0 d hd, fun src => hX s dst src d 0 hd⟩

/-- What the two forms of a 32-bit operation write where their divisor is zero. -/
theorem exec32_by_zero {mkK : Reg → BitVec 32 → Instr} {mkX : Reg → Reg → Instr}
    {f : BitVec 32 → BitVec 32 → BitVec 32} {s : State} {dst : Reg} {d : Word} {v : BitVec 32} (hK : Imm32 mkK f)
    (hX : Reg32 mkX f) (hd : s.regs.get dst = some d) (hf : f (lowHalf d) 0 = v) :
    exec (mkK dst 0) s = .next (wrote s dst (widened v) 1) ∧
      ∀ src, s.regs.get src = some 0 → exec (mkX dst src) s = .next (wrote s dst (widened v) 1) := by
  subst hf
  exact ⟨hK s dst 0 d hd, fun src => hX s dst src d 0 hd⟩

/-- Settles O7: the operations with a divisor are those of O1 and O3, here with the divisor zero. -/
theorem arithmeticNeverFaults : Obligations.ArithmeticNeverFaults := by
  refine ⟨fun i s => exec_completes_of_isArithmetic, fun s dst d hd => ?_⟩
  obtain ⟨-, -, -, -, -, -, divK, divX, sdivK, sdivX, -, -, -, -, -, -, -, -, modK, modX, smodK, smodX, -⟩ :=
    alu64Results
  obtain ⟨divK, divX⟩ := exec64_by_zero divK divX hd (quotientOf_zero d)
  obtain ⟨sdivK, sdivX⟩ := exec64_by_zero sdivK sdivX hd (signedQuotientOf_zero d)
  obtain ⟨modK, modX⟩ := exec64_by_zero modK modX hd (remainderOf_zero d)
  obtain ⟨smodK, smodX⟩ := exec64_by_zero smodK smodX hd (signedRemainderOf_zero d)
  obtain ⟨-, -, -, -, -, -, divK', divX', sdivK', sdivX', -, -, -, -, -, -, -, -, modK', modX', smodK', smodX', -⟩ :=
    alu32Results
  obtain ⟨divK', divX'⟩ := exec32_by_zero divK' divX' hd (quotientOf_zero _)
  obtain ⟨sdivK', sdivX'⟩ := exec32_by_zero sdivK' sdivX' hd (signedQuotientOf_zero _)
  obtain ⟨modK', modX'⟩ := exec32_by_zero modK' modX' hd (remainderOf_zero _)
  obtain ⟨smodK', smodX'⟩ := exec32_by_zero smodK' smodX' hd (signedRemainderOf_zero _)
  rw [wrote_of_get hd] at modK modX smodK smodX
  simp only [List.mem_cons, List.not_mem_nil, or_false, forall_eq_or_imp, forall_eq]
  exact ⟨⟨divK, sdivK, divK', sdivK'⟩, ⟨modK, smodK⟩, ⟨modK', smodK'⟩, fun src hv =>
    ⟨⟨divX src hv, sdivX src hv, divX' src hv, sdivX' src hv⟩, ⟨modX src hv, smodX src hv⟩,
      modX' src hv, smodX' src hv⟩⟩

/-! ### The step -/

/-- The faults of the fetch: no slot at pc, or slots there that decode to nothing (`60_exceptions.md` R513, R514). -/
theorem fetch_error {s : State} {k : FaultInfo} (h : s.fetch = .error k) :
    (k = .pcOutOfRange s.pc ∧ (s.pc < 0 ∨ (s.prog.length : Int) ≤ s.pc)) ∨
      ∃ slot rest, k = s.illegalAt slot rest := by
  unfold State.fetch at h
  split at h
  · exact .inl ⟨(Except.error.inj h).symm, .inl ‹_›⟩
  · split at h
    next hdrop =>
      have hlen := List.drop_eq_nil_iff.mp hdrop
      exact .inl ⟨(Except.error.inj h).symm, .inr (by omega)⟩
    next slot rest hdrop =>
      split at h
      · cases h
      · exact .inr ⟨slot, rest, (Except.error.inj h).symm⟩

theorem fetch_of_out_of_range {s : State} (h : s.pc < 0 ∨ (s.prog.length : Int) ≤ s.pc) :
    s.fetch = .error (.pcOutOfRange s.pc) := by
  rw [State.fetch]
  split
  · rfl
  · have hdrop : s.prog.drop s.pc.toNat = [] := List.drop_eq_nil_of_le (by omega)
    rw [hdrop]

/-- What a step that faults is: the fault of the fetch or of the instruction, taken on the state before it. -/
theorem step_faulted {s t : State} {k : FaultInfo} (hs : s.status = .running) (h : step s = .next t)
    (hk : t.status = .faulted k) :
    t = s.raise k ∧ (s.fetch = .error k ∨ ∃ i, s.fetch = .ok i ∧ Raises i s k) := by
  rw [step, hs] at h
  cases hf : s.fetch with
  | error k' =>
    simp only [hf, Host.Outcome.next.injEq] at h
    subst h
    cases hk
    exact ⟨rfl, .inl rfl⟩
  | ok i =>
    simp only [hf] at h
    obtain ⟨ht, hraises⟩ := exec_faulted hs h hk
    exact ⟨ht, .inr ⟨i, rfl, hraises⟩⟩

/-- Settles O42: the fetch faults so exactly where pc is out of range, and no instruction raises that fault. -/
theorem fetchOutOfRange : Obligations.FetchOutOfRange := by
  refine ⟨fun s hs hout => ?_, fun s t p hs h hk => ?_⟩
  · simp only [step, hs, fetch_of_out_of_range hout]
    rfl
  · obtain ⟨-, hf | ⟨i, -, hraises⟩⟩ := step_faulted hs h hk
    · obtain ⟨hp, hout⟩ | ⟨slot, rest, hill⟩ := fetch_error hf
      · cases hp
        exact ⟨rfl, hout⟩
      · cases hill
    · cases hraises

/-- Settles O37: a faulting step only takes its fault, whose record names the pc of the state in every case, and a
faulted state takes no step. -/
theorem faultsArePrecise : Obligations.FaultsArePrecise := by
  intro s t k hs h hk
  obtain ⟨rfl, hcause⟩ := step_faulted hs h hk
  refine ⟨rfl, ?_, finishedNeverSteps.2.2 _ k rfl⟩
  obtain hf | ⟨i, -, hraises⟩ := hcause
  · obtain ⟨rfl, -⟩ | ⟨slot, rest, rfl⟩ := fetch_error hf
    · rfl
    · rfl
  · cases hraises with
    | unwritten | denied | unknownHelper | helperFailed | tooDeep | unresolved | legacy => rfl

end Sys2Proof.Claims
end

section
/-! PROOFS. The decoder and the encoder, read backwards: what each shape of row says of the fields it reads, once in
each direction, and from these the two round trips (O47, O48). -/

namespace Sys2Proof.Claims

open Sys2Proof.Machine

/-! ### The slot of the fields of a slot -/

theorem nibbles_split : ∀ b : Byte, b.extractLsb' 4 4 ++ b.extractLsb' 0 4 = b := by decide

theorem extractLsb'_append_low {n m lo : Nat} (x : BitVec n) (y : BitVec m) (h : lo + 8 ≤ m) :
    (x ++ y).extractLsb' lo 8 = y.extractLsb' lo 8 := by
  apply BitVec.eq_of_getLsbD_eq
  intro k hk
  have hlow : lo + k < m := by omega
  simp [BitVec.getLsbD_append, hk, hlow]

theorem extractLsb'_append_high {n m lo : Nat} (x : BitVec n) (y : BitVec m) (h : m ≤ lo) :
    (x ++ y).extractLsb' lo 8 = x.extractLsb' (lo - m) 8 := by
  apply BitVec.eq_of_getLsbD_eq
  intro k hk
  have hhigh : ¬ lo + k < m := by omega
  simp [BitVec.getLsbD_append, hk, hhigh, Nat.sub_add_comm h]

/-- A slot is the slot of its own fields, in both byte orders. -/
theorem slot_of_fields (e : Endian) (s : Slot) : (s.fields e).slot e = s := by
  have hbyte (b : Byte) : b.extractLsb' 0 8 = b := BitVec.extractLsb'_eq_self
  cases e <;>
    simp (disch := decide) only [Slot.fields, Fields.slot, nibbles_split, extractLsb'_append_low,
      extractLsb'_append_high, hbyte, Nat.reduceSub]

/-! ### The checks of one field -/

theorem writable_eq_true_iff {r : Reg} : r.writable = true ↔ r ≠ .r10 := by cases r <;> simp [Reg.writable]

/-- A 4-bit field names a register exactly when it is the number of that register (`30_encoding.md` R113). -/
theorem ofNumber_eq_some_iff {n : BitVec 4} {r : Reg} : Reg.ofNumber n = some r ↔ n = r.number := by
  constructor
  · revert n r
    decide
  · rintro rfl
    exact Reg.ofNumber_number r

@[simp] theorem readRegister_eq_ok_iff {n : BitVec 4} {r : Reg} : readRegister n = .ok r ↔ n = r.number := by
  rw [← ofNumber_eq_some_iff, readRegister]
  split <;> simp [*]

@[simp] theorem writtenRegister_eq_ok_iff {n : BitVec 4} {r : Reg} :
    writtenRegister n = .ok r ↔ n = r.number ∧ r.writable = true := by
  rw [← ofNumber_eq_some_iff, writtenRegister]
  cases Reg.ofNumber n with
  | none => simp
  | some q => cases hq : q.writable <;> grind

@[simp] theorem require_eq_ok_iff {b : Bool} {why : Illegal} {u : Unit} : require b why = .ok u ↔ b = true := by
  cases b <;> simp [require]

@[simp] theorem pure_eq_ok_iff {ε α : Type} {a b : α} : (pure a : Except ε α) = .ok b ↔ a = b :=
  ⟨Except.ok.inj, congrArg Except.ok⟩

@[simp] theorem map_eq_ok_iff {ε α β : Type} {x : Except ε α} {f : α → β} {b : β} :
    f <$> x = .ok b ↔ ∃ a, x = .ok a ∧ f a = b := by
  cases x <;> simp [Functor.map, Except.map]

@[simp] theorem bind_eq_ok_iff {ε α β : Type} {x : Except ε α} {f : α → Except ε β} {b : β} :
    (x >>= f) = .ok b ↔ ∃ a, x = .ok a ∧ f a = .ok b :=
  ⟨bind_ok, fun ⟨_, hx, hf⟩ => hx ▸ hf⟩

@[simp] theorem dstZero_eq_ok_iff {f : Fields} {u : Unit} : f.dstZero = .ok u ↔ f.dst = 0 := by
  rw [Fields.dstZero, require_eq_ok_iff, beq_iff_eq]

@[simp] theorem srcZero_eq_ok_iff {f : Fields} {u : Unit} : f.srcZero = .ok u ↔ f.src = 0 := by
  rw [Fields.srcZero, require_eq_ok_iff, beq_iff_eq]

@[simp] theorem offsetZero_eq_ok_iff {f : Fields} {u : Unit} : f.offsetZero = .ok u ↔ f.offset = 0 := by
  rw [Fields.offsetZero, require_eq_ok_iff, beq_iff_eq]

@[simp] theorem immZero_eq_ok_iff {f : Fields} {u : Unit} : f.immZero = .ok u ↔ f.imm = 0 := by
  rw [Fields.immZero, require_eq_ok_iff, beq_iff_eq]

@[simp] theorem nextImmOf_eq_ok_iff {next : Option Fields} {v : BitVec 32} :
    nextImmOf next = .ok v ↔ next = some ⟨0, 0, 0, 0, v⟩ := by
  constructor
  · intro h
    obtain ⟨⟨op, dst, src, offset, imm⟩, hnext, rfl, rfl, rfl, rfl, rfl⟩ := nextImmOf_ok h
    exact hnext
  · rintro rfl
    rfl

/-! ### The shapes of rows (`30_encoding.md` R153)

Each shape reads an instruction exactly from the fields that the right-hand side says. -/

section Shapes

variable {f : Fields} {i : Instr} {next : Option Fields}

theorem arithImm_eq_ok_iff {mk : Reg → BitVec 32 → Instr} :
    f.arithImm mk = .ok i ↔ ∃ dst, (f.dst = dst.number ∧ dst.writable = true) ∧ f.src = 0 ∧ mk dst f.imm = i := by
  simp [Fields.arithImm]

theorem arithReg_eq_ok_iff {mk : Reg → Reg → Instr} :
    f.arithReg mk = .ok i ↔ ∃ dst, (f.dst = dst.number ∧ dst.writable = true) ∧
      ∃ src, f.src = src.number ∧ f.imm = 0 ∧ mk dst src = i := by
  simp [Fields.arithReg]

theorem plainImm_eq_ok_iff {mk : Reg → BitVec 32 → Instr} :
    f.plainImm mk = .ok i ↔ f.offset = 0 ∧ f.arithImm mk = .ok i := by
  simp [Fields.plainImm]

theorem plainReg_eq_ok_iff {mk : Reg → Reg → Instr} :
    f.plainReg mk = .ok i ↔ f.offset = 0 ∧ f.arithReg mk = .ok i := by
  simp [Fields.plainReg]

theorem signedImm_eq_ok_iff {u s : Reg → BitVec 32 → Instr} :
    f.signedImm u s = .ok i ↔ f.offset = 0 ∧ f.arithImm u = .ok i ∨ f.offset = 1 ∧ f.arithImm s = .ok i := by
  unfold Fields.signedImm
  split <;> simp_all [BitVec.toNat_eq]

theorem signedReg_eq_ok_iff {u s : Reg → Reg → Instr} :
    f.signedReg u s = .ok i ↔ f.offset = 0 ∧ f.arithReg u = .ok i ∨ f.offset = 1 ∧ f.arithReg s = .ok i := by
  unfold Fields.signedReg
  split <;> simp_all [BitVec.toNat_eq]

theorem move64_eq_ok_iff :
    f.move64 = .ok i ↔ f.offset = 0 ∧ f.arithReg .mov64X = .ok i ∨ f.offset = 8 ∧ f.arithReg .movsx64From8 = .ok i ∨
      f.offset = 16 ∧ f.arithReg .movsx64From16 = .ok i ∨ f.offset = 32 ∧ f.arithReg .movsx64From32 = .ok i := by
  unfold Fields.move64
  split <;> simp_all [BitVec.toNat_eq]

theorem move32_eq_ok_iff :
    f.move32 = .ok i ↔ f.offset = 0 ∧ f.arithReg .mov32X = .ok i ∨ f.offset = 8 ∧ f.arithReg .movsx32From8 = .ok i ∨
      f.offset = 16 ∧ f.arithReg .movsx32From16 = .ok i := by
  unfold Fields.move32
  split <;> simp_all [BitVec.toNat_eq]

theorem dstOnly_eq_ok_iff {mk : Reg → Instr} :
    f.dstOnly mk = .ok i ↔
      ∃ dst, (f.dst = dst.number ∧ dst.writable = true) ∧ f.src = 0 ∧ f.offset = 0 ∧ mk dst = i := by
  simp [Fields.dstOnly]

theorem negate_eq_ok_iff {mk : Reg → Instr} : f.negate mk = .ok i ↔ f.imm = 0 ∧ f.dstOnly mk = .ok i := by
  simp [Fields.negate]

theorem swap_eq_ok_iff {mk16 mk32 mk64 : Reg → Instr} :
    f.swap mk16 mk32 mk64 = .ok i ↔ f.imm = 16 ∧ f.dstOnly mk16 = .ok i ∨ f.imm = 32 ∧ f.dstOnly mk32 = .ok i ∨
      f.imm = 64 ∧ f.dstOnly mk64 = .ok i := by
  unfold Fields.swap
  split <;> simp_all [BitVec.toNat_eq]

theorem jumpAlways_eq_ok_iff :
    f.jumpAlways = .ok i ↔ f.dst = 0 ∧ f.src = 0 ∧ f.imm = 0 ∧ .ja f.offset = i := by
  simp [Fields.jumpAlways]

theorem jumpAlways32_eq_ok_iff :
    f.jumpAlways32 = .ok i ↔ f.dst = 0 ∧ f.src = 0 ∧ f.offset = 0 ∧ .ja32 f.imm = i := by
  simp [Fields.jumpAlways32]

theorem jumpImm_eq_ok_iff {mk : Reg → BitVec 16 → BitVec 32 → Instr} :
    f.jumpImm mk = .ok i ↔ ∃ dst, f.dst = dst.number ∧ f.src = 0 ∧ mk dst f.offset f.imm = i := by
  simp [Fields.jumpImm]

theorem storeImm_eq_ok_iff {mk : Reg → BitVec 16 → BitVec 32 → Instr} :
    f.storeImm mk = .ok i ↔ ∃ dst, f.dst = dst.number ∧ f.src = 0 ∧ mk dst f.offset f.imm = i :=
  jumpImm_eq_ok_iff

theorem twoReads_eq_ok_iff {mk : Reg → Reg → BitVec 16 → Instr} :
    f.twoReads mk = .ok i ↔
      ∃ dst, f.dst = dst.number ∧ ∃ src, f.src = src.number ∧ f.imm = 0 ∧ mk dst src f.offset = i := by
  simp [Fields.twoReads]

theorem load_eq_ok_iff {mk : Reg → Reg → BitVec 16 → Instr} :
    f.load mk = .ok i ↔ ∃ dst, (f.dst = dst.number ∧ dst.writable = true) ∧
      ∃ src, f.src = src.number ∧ f.imm = 0 ∧ mk dst src f.offset = i := by
  simp [Fields.load]

theorem exit_eq_ok_iff :
    f.exit = .ok i ↔ f.dst = 0 ∧ f.src = 0 ∧ f.offset = 0 ∧ f.imm = 0 ∧ .exit = i := by
  simp [Fields.exit]

theorem call_eq_ok_iff {disp : LocalCallDisp} :
    f.call disp = .ok i ↔ f.src = 0 ∧ f.dst = 0 ∧ f.offset = 0 ∧ .callHelper f.imm = i ∨
      f.src = 1 ∧ f.dst = 0 ∧ callFieldsOk disp f.offset f.imm = true ∧ .callLocal f.offset f.imm = i ∨
      f.src = 2 ∧ f.dst = 0 ∧ f.offset = 0 ∧ .callBtf f.imm = i := by
  unfold Fields.call
  split <;> simp_all [BitVec.toNat_eq]

theorem atomicKeep_eq_ok_iff {mk : Reg → Reg → BitVec 16 → Instr} :
    f.atomicKeep mk = .ok i ↔ ∃ dst, f.dst = dst.number ∧ ∃ src, f.src = src.number ∧ mk dst src f.offset = i := by
  simp [Fields.atomicKeep]

theorem atomicFetch_eq_ok_iff {mk : Reg → Reg → BitVec 16 → Instr} :
    f.atomicFetch mk = .ok i ↔ ∃ dst, f.dst = dst.number ∧
      ∃ src, (f.src = src.number ∧ src.writable = true) ∧ mk dst src f.offset = i := by
  simp [Fields.atomicFetch]

theorem wide_eq_ok_iff {mk : Reg → BitVec 32 → BitVec 32 → Instr} :
    f.wide next mk = .ok i ↔ ∃ dst, (f.dst = dst.number ∧ dst.writable = true) ∧ f.offset = 0 ∧
      ∃ v, next = some ⟨0, 0, 0, 0, v⟩ ∧ mk dst f.imm v = i := by
  simp [Fields.wide]

theorem wideZero_eq_ok_iff {mk : Reg → BitVec 32 → Instr} :
    f.wideZero next mk = .ok i ↔ ∃ dst, (f.dst = dst.number ∧ dst.writable = true) ∧ f.offset = 0 ∧
      next = some ⟨0, 0, 0, 0, 0⟩ ∧ mk dst f.imm = i := by
  have hnext (dst : Reg) : (∃ v, next = some ⟨0#8, 0#4, 0#4, 0#16, v⟩ ∧ v = 0#32 ∧ mk dst f.imm = i) ↔
      next = some ⟨0#8, 0#4, 0#4, 0#16, 0#32⟩ ∧ mk dst f.imm = i :=
    ⟨fun ⟨_, hnext, hzero, hi⟩ => ⟨hzero ▸ hnext, hi⟩, fun ⟨hnext, hi⟩ => ⟨_, hnext, rfl, hi⟩⟩
  simp [Fields.wideZero, hnext]

end Shapes

/-! ### Reading the fields of an instruction -/

section Numbers

variable {op : BitVec 8} {dst src : Reg} {off : BitVec 16} {imm : BitVec 32}

theorem arithImm_number {mk : Reg → BitVec 32 → Instr} (h : dst.writable = true) :
    Fields.arithImm ⟨op, dst.number, 0#4, off, imm⟩ mk = .ok (mk dst imm) :=
  arithImm_eq_ok_iff.mpr ⟨dst, ⟨rfl, h⟩, rfl, rfl⟩

theorem arithReg_number {mk : Reg → Reg → Instr} (h : dst.writable = true) :
    Fields.arithReg ⟨op, dst.number, src.number, off, 0#32⟩ mk = .ok (mk dst src) :=
  arithReg_eq_ok_iff.mpr ⟨dst, ⟨rfl, h⟩, src, rfl, rfl, rfl⟩

theorem plainImm_number {mk : Reg → BitVec 32 → Instr} (h : dst.writable = true) :
    Fields.plainImm ⟨op, dst.number, 0#4, 0#16, imm⟩ mk = .ok (mk dst imm) :=
  plainImm_eq_ok_iff.mpr ⟨rfl, arithImm_number h⟩

theorem plainReg_number {mk : Reg → Reg → Instr} (h : dst.writable = true) :
    Fields.plainReg ⟨op, dst.number, src.number, 0#16, 0#32⟩ mk = .ok (mk dst src) :=
  plainReg_eq_ok_iff.mpr ⟨rfl, arithReg_number h⟩

theorem dstOnly_number {mk : Reg → Instr} (h : dst.writable = true) :
    Fields.dstOnly ⟨op, dst.number, 0#4, 0#16, imm⟩ mk = .ok (mk dst) :=
  dstOnly_eq_ok_iff.mpr ⟨dst, ⟨rfl, h⟩, rfl, rfl, rfl⟩

theorem negate_number {mk : Reg → Instr} (h : dst.writable = true) :
    Fields.negate ⟨op, dst.number, 0#4, 0#16, 0#32⟩ mk = .ok (mk dst) :=
  negate_eq_ok_iff.mpr ⟨rfl, dstOnly_number h⟩

theorem jumpImm_number {mk : Reg → BitVec 16 → BitVec 32 → Instr} :
    Fields.jumpImm ⟨op, dst.number, 0#4, off, imm⟩ mk = .ok (mk dst off imm) :=
  jumpImm_eq_ok_iff.mpr ⟨dst, rfl, rfl, rfl⟩

theorem storeImm_number {mk : Reg → BitVec 16 → BitVec 32 → Instr} :
    Fields.storeImm ⟨op, dst.number, 0#4, off, imm⟩ mk = .ok (mk dst off imm) :=
  storeImm_eq_ok_iff.mpr ⟨dst, rfl, rfl, rfl⟩

theorem twoReads_number {mk : Reg → Reg → BitVec 16 → Instr} :
    Fields.twoReads ⟨op, dst.number, src.number, off, 0#32⟩ mk = .ok (mk dst src off) :=
  twoReads_eq_ok_iff.mpr ⟨dst, rfl, src, rfl, rfl, rfl⟩

theorem load_number {mk : Reg → Reg → BitVec 16 → Instr} (h : dst.writable = true) :
    Fields.load ⟨op, dst.number, src.number, off, 0#32⟩ mk = .ok (mk dst src off) :=
  load_eq_ok_iff.mpr ⟨dst, ⟨rfl, h⟩, src, rfl, rfl, rfl⟩

theorem atomicKeep_number {mk : Reg → Reg → BitVec 16 → Instr} :
    Fields.atomicKeep ⟨op, dst.number, src.number, off, imm⟩ mk = .ok (mk dst src off) :=
  atomicKeep_eq_ok_iff.mpr ⟨dst, rfl, src, rfl, rfl⟩

theorem atomicFetch_number {mk : Reg → Reg → BitVec 16 → Instr} (h : src.writable = true) :
    Fields.atomicFetch ⟨op, dst.number, src.number, off, imm⟩ mk = .ok (mk dst src off) :=
  atomicFetch_eq_ok_iff.mpr ⟨dst, rfl, src, ⟨rfl, h⟩, rfl⟩

theorem wide_number {sub : BitVec 4} {v : BitVec 32} {mk : Reg → BitVec 32 → BitVec 32 → Instr}
    (h : dst.writable = true) :
    Fields.wide ⟨op, dst.number, sub, 0#16, imm⟩ (some ⟨0#8, 0#4, 0#4, 0#16, v⟩) mk = .ok (mk dst imm v) :=
  wide_eq_ok_iff.mpr ⟨dst, ⟨rfl, h⟩, rfl, v, rfl, rfl⟩

theorem wideZero_number {sub : BitVec 4} {mk : Reg → BitVec 32 → Instr} (h : dst.writable = true) :
    Fields.wideZero ⟨op, dst.number, sub, 0#16, imm⟩ (some ⟨0#8, 0#4, 0#4, 0#16, 0#32⟩) mk = .ok (mk dst imm) :=
  wideZero_eq_ok_iff.mpr ⟨dst, ⟨rfl, h⟩, rfl, rfl, rfl⟩

end Numbers

/-- The decoder gives a well-formed instruction back from its own fields, whatever follows a basic one. -/
theorem decodeFields_fields {disp : LocalCallDisp} {i : Instr} {next : Option Fields} (h : i.wf disp = true)
    (hnext : ∀ v, i.second = some v → next = some ⟨0, 0, 0, 0, v⟩) : decodeFields disp i.fields next = .ok i := by
  cases i with
  | add64K _ _ | sub64K _ _ | mul64K _ _ | or64K _ _ | and64K _ _ | lsh64K _ _ | rsh64K _ _ | xor64K _ _
  | mov64K _ _ | arsh64K _ _ | add32K _ _ | sub32K _ _ | mul32K _ _ | or32K _ _ | and32K _ _ | lsh32K _ _
  | rsh32K _ _ | xor32K _ _ | mov32K _ _ | arsh32K _ _ =>
    simp [Instr.fields, decodeFields, Fields.decodeAlu64, Fields.decodeAlu, plainImm_number h]
  | add64X _ _ | sub64X _ _ | mul64X _ _ | or64X _ _ | and64X _ _ | lsh64X _ _ | rsh64X _ _ | xor64X _ _
  | arsh64X _ _ | add32X _ _ | sub32X _ _ | mul32X _ _ | or32X _ _ | and32X _ _ | lsh32X _ _ | rsh32X _ _
  | xor32X _ _ | arsh32X _ _ =>
    simp [Instr.fields, decodeFields, Fields.decodeAlu64, Fields.decodeAlu, plainReg_number h]
  | div64K _ _ | mod64K _ _  | div32K _ _ | mod32K _ _ | sdiv64K _ _ | smod64K _ _ | sdiv32K _ _ | smod32K _ _ =>
    simp [Instr.fields, decodeFields, Fields.decodeAlu64, Fields.decodeAlu, Fields.signedImm, arithImm_number h]
  | div64X _ _ | mod64X _ _  | div32X _ _ | mod32X _ _ | sdiv64X _ _ | smod64X _ _ | sdiv32X _ _ | smod32X _ _ =>
    simp [Instr.fields, decodeFields, Fields.decodeAlu64, Fields.decodeAlu, Fields.signedReg, arithReg_number h]
  | mov64X _ _ | movsx64From8 _ _ | movsx64From16 _ _ | movsx64From32 _ _ | mov32X _ _ | movsx32From8 _ _
  | movsx32From16 _ _ =>
    simp [Instr.fields, decodeFields, Fields.decodeAlu64, Fields.decodeAlu, Fields.move64, Fields.move32,
      arithReg_number h]
  | neg64 _ | neg32 _ =>
    simp [Instr.fields, decodeFields, Fields.decodeAlu64, Fields.decodeAlu, negate_number h]
  | le16 _ | be16 _ | bswap16 _ | le32 _ | be32 _ | bswap32 _ | le64 _ | be64 _ | bswap64 _ =>
    simp [Instr.fields, decodeFields, Fields.decodeAlu64, Fields.decodeAlu, Fields.swap, dstOnly_number h]
  | ja _ | ja32 _ | exit => rfl
  | callHelper _ | callBtf _ =>
    simp [Instr.fields, decodeFields, Fields.decodeJmp, call_eq_ok_iff]
  | jeq64K _ _ _ | jgt64K _ _ _ | jge64K _ _ _ | jset64K _ _ _ | jne64K _ _ _ | jsgt64K _ _ _ | jsge64K _ _ _
  | jlt64K _ _ _ | jle64K _ _ _ | jslt64K _ _ _ | jsle64K _ _ _ | jeq32K _ _ _ | jgt32K _ _ _ | jge32K _ _ _
  | jset32K _ _ _ | jne32K _ _ _ | jsgt32K _ _ _ | jsge32K _ _ _ | jlt32K _ _ _ | jle32K _ _ _ | jslt32K _ _ _
  | jsle32K _ _ _ =>
    simp [Instr.fields, decodeFields, Fields.decodeJmp, Fields.decodeJmp32, jumpImm_number]
  | jeq64X _ _ _ | jgt64X _ _ _ | jge64X _ _ _ | jset64X _ _ _ | jne64X _ _ _ | jsgt64X _ _ _ | jsge64X _ _ _
  | jlt64X _ _ _ | jle64X _ _ _ | jslt64X _ _ _ | jsle64X _ _ _ | jeq32X _ _ _ | jgt32X _ _ _ | jge32X _ _ _
  | jset32X _ _ _ | jne32X _ _ _ | jsgt32X _ _ _ | jsge32X _ _ _ | jlt32X _ _ _ | jle32X _ _ _ | jslt32X _ _ _
  | jsle32X _ _ _ | stxb _ _ _ | stxh _ _ _ | stxw _ _ _ | stxdw _ _ _ =>
    simp [Instr.fields, decodeFields, Fields.decodeJmp, Fields.decodeJmp32, Fields.decodeStx, twoReads_number]
  | callLocal _ _ =>
    rw [Instr.wf] at h
    simpa [Instr.fields, decodeFields, Fields.decodeJmp, call_eq_ok_iff] using h
  | ldxb _ _ _ | ldxh _ _ _ | ldxw _ _ _ | ldxdw _ _ _ | ldxsb _ _ _ | ldxsh _ _ _ | ldxsw _ _ _ =>
    simp [Instr.fields, decodeFields, Fields.decodeLdx, load_number h]
  | stb _ _ _ | sth _ _ _ | stw _ _ _ | stdw _ _ _ =>
    simp [Instr.fields, decodeFields, Fields.decodeSt, storeImm_number]
  | atomicAdd32 _ _ _ | atomicOr32 _ _ _ | atomicAnd32 _ _ _ | atomicXor32 _ _ _ | atomicAdd64 _ _ _
  | atomicOr64 _ _ _ | atomicAnd64 _ _ _ | atomicXor64 _ _ _ | atomicCmpxchg32 _ _ _ | atomicCmpxchg64 _ _ _ =>
    simp [Instr.fields, decodeFields, Fields.decodeStx, Fields.atomic32, Fields.atomic64, atomicKeep_number]
  | atomicFetchAdd32 _ _ _ | atomicFetchOr32 _ _ _ | atomicFetchAnd32 _ _ _ | atomicFetchXor32 _ _ _
  | atomicXchg32 _ _ _ | atomicFetchAdd64 _ _ _ | atomicFetchOr64 _ _ _ | atomicFetchAnd64 _ _ _
  | atomicFetchXor64 _ _ _ | atomicXchg64 _ _ _ =>
    simp [Instr.fields, decodeFields, Fields.decodeStx, Fields.atomic32, Fields.atomic64, atomicFetch_number h]
  | lddw _ _ _ | ldMapValFd _ _ _ | ldMapValIdx _ _ _ =>
    simp [Instr.fields, decodeFields, Fields.decodeLd, Fields.imm64, hnext _ rfl, wide_number h]
  | ldMapFd _ _ | ldVarAddr _ _ | ldCodeAddr _ _ | ldMapIdx _ _ =>
    simp [Instr.fields, decodeFields, Fields.decodeLd, Fields.imm64, hnext _ rfl, wideZero_number h]
  | ldAbs size _ _ _ _ => exact ldAbs_legacyRow.decodes _ _ _ size rfl
  | ldInd size _ _ _ _ => exact ldInd_legacyRow.decodes _ _ _ size rfl

/-! ### Encoding what was decoded -/

/-- `i` is well-formed and has the fields `f` and, where it is wide, the fields of the slot after it. -/
structure ReadFrom (disp : LocalCallDisp) (f : Fields) (next : Option Fields) (i : Instr) : Prop where
  wf : i.wf disp = true
  fields : i.fields = f
  second : ∀ v, i.second = some v → next = some ⟨0, 0, 0, 0, v⟩

theorem fields_eq {f : Fields} {op : Nat} {dst src : BitVec 4} {off : BitVec 16} {imm : BitVec 32}
    (hop : f.opcode.toNat = op) (hdst : f.dst = dst) (hsrc : f.src = src) (hoff : f.offset = off)
    (himm : f.imm = imm) : f = ⟨BitVec.ofNat 8 op, dst, src, off, imm⟩ := by
  subst hop hdst hsrc hoff himm
  rw [BitVec.ofNat_toNat, BitVec.setWidth_eq]

section Decoders

/-! What a shape reads is read from all its fields, where each instruction that it makes is read from its own. -/

variable {disp : LocalCallDisp} {f : Fields} {next : Option Fields} {i : Instr} {op : Nat}

theorem arithImm_readFrom {mk : Reg → BitVec 32 → Instr} {off : BitVec 16} (hop : f.opcode.toNat = op)
    (hoff : f.offset = off) (h : f.arithImm mk = .ok i)
    (hmk : ∀ dst imm, dst.writable = true →
      ReadFrom disp ⟨BitVec.ofNat 8 op, dst.number, 0, off, imm⟩ next (mk dst imm)) : ReadFrom disp f next i := by
  obtain ⟨dst, ⟨hdst, hw⟩, hsrc, rfl⟩ := arithImm_eq_ok_iff.mp h
  rw [fields_eq hop hdst hsrc hoff rfl]
  exact hmk dst _ hw

theorem arithReg_readFrom {mk : Reg → Reg → Instr} {off : BitVec 16} (hop : f.opcode.toNat = op)
    (hoff : f.offset = off) (h : f.arithReg mk = .ok i)
    (hmk : ∀ dst src, dst.writable = true →
      ReadFrom disp ⟨BitVec.ofNat 8 op, dst.number, src.number, off, 0⟩ next (mk dst src)) :
    ReadFrom disp f next i := by
  obtain ⟨dst, ⟨hdst, hw⟩, src, hsrc, himm, rfl⟩ := arithReg_eq_ok_iff.mp h
  rw [fields_eq hop hdst hsrc hoff himm]
  exact hmk dst src hw

theorem plainImm_readFrom {mk : Reg → BitVec 32 → Instr} (hop : f.opcode.toNat = op) (h : f.plainImm mk = .ok i)
    (hmk : ∀ dst imm, dst.writable = true →
      ReadFrom disp ⟨BitVec.ofNat 8 op, dst.number, 0, 0, imm⟩ next (mk dst imm)) : ReadFrom disp f next i := by
  obtain ⟨hoff, h⟩ := plainImm_eq_ok_iff.mp h
  exact arithImm_readFrom hop hoff h hmk

theorem plainReg_readFrom {mk : Reg → Reg → Instr} (hop : f.opcode.toNat = op) (h : f.plainReg mk = .ok i)
    (hmk : ∀ dst src, dst.writable = true →
      ReadFrom disp ⟨BitVec.ofNat 8 op, dst.number, src.number, 0, 0⟩ next (mk dst src)) :
    ReadFrom disp f next i := by
  obtain ⟨hoff, h⟩ := plainReg_eq_ok_iff.mp h
  exact arithReg_readFrom hop hoff h hmk

theorem signedImm_readFrom {u s : Reg → BitVec 32 → Instr} (hop : f.opcode.toNat = op) (h : f.signedImm u s = .ok i)
    (hu : ∀ dst imm, dst.writable = true →
      ReadFrom disp ⟨BitVec.ofNat 8 op, dst.number, 0, 0, imm⟩ next (u dst imm))
    (hs : ∀ dst imm, dst.writable = true →
      ReadFrom disp ⟨BitVec.ofNat 8 op, dst.number, 0, 1, imm⟩ next (s dst imm)) : ReadFrom disp f next i := by
  obtain ⟨hoff, h⟩ | ⟨hoff, h⟩ := signedImm_eq_ok_iff.mp h
  · exact arithImm_readFrom hop hoff h hu
  · exact arithImm_readFrom hop hoff h hs

theorem signedReg_readFrom {u s : Reg → Reg → Instr} (hop : f.opcode.toNat = op) (h : f.signedReg u s = .ok i)
    (hu : ∀ dst src, dst.writable = true →
      ReadFrom disp ⟨BitVec.ofNat 8 op, dst.number, src.number, 0, 0⟩ next (u dst src))
    (hs : ∀ dst src, dst.writable = true →
      ReadFrom disp ⟨BitVec.ofNat 8 op, dst.number, src.number, 1, 0⟩ next (s dst src)) : ReadFrom disp f next i := by
  obtain ⟨hoff, h⟩ | ⟨hoff, h⟩ := signedReg_eq_ok_iff.mp h
  · exact arithReg_readFrom hop hoff h hu
  · exact arithReg_readFrom hop hoff h hs

theorem move64_readFrom (hop : f.opcode.toNat = 0xbf) (h : f.move64 = .ok i) : ReadFrom disp f next i := by
  obtain ⟨hoff, h⟩ | ⟨hoff, h⟩ | ⟨hoff, h⟩ | ⟨hoff, h⟩ := move64_eq_ok_iff.mp h
  all_goals exact arithReg_readFrom hop hoff h fun _ _ hw => ⟨hw, rfl, nofun⟩

theorem move32_readFrom (hop : f.opcode.toNat = 0xbc) (h : f.move32 = .ok i) : ReadFrom disp f next i := by
  obtain ⟨hoff, h⟩ | ⟨hoff, h⟩ | ⟨hoff, h⟩ := move32_eq_ok_iff.mp h
  all_goals exact arithReg_readFrom hop hoff h fun _ _ hw => ⟨hw, rfl, nofun⟩

theorem dstOnly_readFrom {mk : Reg → Instr} {imm : BitVec 32} (hop : f.opcode.toNat = op) (himm : f.imm = imm)
    (h : f.dstOnly mk = .ok i)
    (hmk : ∀ dst, dst.writable = true → ReadFrom disp ⟨BitVec.ofNat 8 op, dst.number, 0, 0, imm⟩ next (mk dst)) :
    ReadFrom disp f next i := by
  obtain ⟨dst, ⟨hdst, hw⟩, hsrc, hoff, rfl⟩ := dstOnly_eq_ok_iff.mp h
  rw [fields_eq hop hdst hsrc hoff himm]
  exact hmk dst hw

theorem negate_readFrom {mk : Reg → Instr} (hop : f.opcode.toNat = op) (h : f.negate mk = .ok i)
    (hmk : ∀ dst, dst.writable = true → ReadFrom disp ⟨BitVec.ofNat 8 op, dst.number, 0, 0, 0⟩ next (mk dst)) :
    ReadFrom disp f next i := by
  obtain ⟨himm, h⟩ := negate_eq_ok_iff.mp h
  exact dstOnly_readFrom hop himm h hmk

theorem swap_readFrom {mk16 mk32 mk64 : Reg → Instr} (hop : f.opcode.toNat = op) (h : f.swap mk16 mk32 mk64 = .ok i)
    (h16 : ∀ dst, dst.writable = true → ReadFrom disp ⟨BitVec.ofNat 8 op, dst.number, 0, 0, 16⟩ next (mk16 dst))
    (h32 : ∀ dst, dst.writable = true → ReadFrom disp ⟨BitVec.ofNat 8 op, dst.number, 0, 0, 32⟩ next (mk32 dst))
    (h64 : ∀ dst, dst.writable = true → ReadFrom disp ⟨BitVec.ofNat 8 op, dst.number, 0, 0, 64⟩ next (mk64 dst)) :
    ReadFrom disp f next i := by
  obtain ⟨himm, h⟩ | ⟨himm, h⟩ | ⟨himm, h⟩ := swap_eq_ok_iff.mp h
  · exact dstOnly_readFrom hop himm h h16
  · exact dstOnly_readFrom hop himm h h32
  · exact dstOnly_readFrom hop himm h h64

theorem jumpImm_readFrom {mk : Reg → BitVec 16 → BitVec 32 → Instr} (hop : f.opcode.toNat = op)
    (h : f.jumpImm mk = .ok i)
    (hmk : ∀ dst off imm, ReadFrom disp ⟨BitVec.ofNat 8 op, dst.number, 0, off, imm⟩ next (mk dst off imm)) :
    ReadFrom disp f next i := by
  obtain ⟨dst, hdst, hsrc, rfl⟩ := jumpImm_eq_ok_iff.mp h
  rw [fields_eq hop hdst hsrc rfl rfl]
  exact hmk dst _ _

theorem twoReads_readFrom {mk : Reg → Reg → BitVec 16 → Instr} (hop : f.opcode.toNat = op)
    (h : f.twoReads mk = .ok i)
    (hmk : ∀ dst src off, ReadFrom disp ⟨BitVec.ofNat 8 op, dst.number, src.number, off, 0⟩ next (mk dst src off)) :
    ReadFrom disp f next i := by
  obtain ⟨dst, hdst, src, hsrc, himm, rfl⟩ := twoReads_eq_ok_iff.mp h
  rw [fields_eq hop hdst hsrc rfl himm]
  exact hmk dst src _

theorem load_readFrom {mk : Reg → Reg → BitVec 16 → Instr} (hop : f.opcode.toNat = op) (h : f.load mk = .ok i)
    (hmk : ∀ dst src off, dst.writable = true →
      ReadFrom disp ⟨BitVec.ofNat 8 op, dst.number, src.number, off, 0⟩ next (mk dst src off)) :
    ReadFrom disp f next i := by
  obtain ⟨dst, ⟨hdst, hw⟩, src, hsrc, himm, rfl⟩ := load_eq_ok_iff.mp h
  rw [fields_eq hop hdst hsrc rfl himm]
  exact hmk dst src _ hw

theorem atomicKeep_readFrom {mk : Reg → Reg → BitVec 16 → Instr} {sel : Nat} (hop : f.opcode.toNat = op)
    (hsel : f.imm.toNat = sel) (h : f.atomicKeep mk = .ok i)
    (hmk : ∀ dst src off,
      ReadFrom disp ⟨BitVec.ofNat 8 op, dst.number, src.number, off, BitVec.ofNat 32 sel⟩ next (mk dst src off)) :
    ReadFrom disp f next i := by
  obtain ⟨dst, hdst, src, hsrc, rfl⟩ := atomicKeep_eq_ok_iff.mp h
  have himm : f.imm = BitVec.ofNat 32 sel := by rw [← hsel, BitVec.ofNat_toNat, BitVec.setWidth_eq]
  rw [fields_eq hop hdst hsrc rfl himm]
  exact hmk dst src _

theorem atomicFetch_readFrom {mk : Reg → Reg → BitVec 16 → Instr} {sel : Nat} (hop : f.opcode.toNat = op)
    (hsel : f.imm.toNat = sel) (h : f.atomicFetch mk = .ok i)
    (hmk : ∀ dst src off, src.writable = true →
      ReadFrom disp ⟨BitVec.ofNat 8 op, dst.number, src.number, off, BitVec.ofNat 32 sel⟩ next (mk dst src off)) :
    ReadFrom disp f next i := by
  obtain ⟨dst, hdst, src, ⟨hsrc, hw⟩, rfl⟩ := atomicFetch_eq_ok_iff.mp h
  have himm : f.imm = BitVec.ofNat 32 sel := by rw [← hsel, BitVec.ofNat_toNat, BitVec.setWidth_eq]
  rw [fields_eq hop hdst hsrc rfl himm]
  exact hmk dst src _ hw

theorem atomic32_readFrom (hop : f.opcode.toNat = 0xc3) (h : f.atomic32 = .ok i) : ReadFrom disp f next i := by
  unfold Fields.atomic32 at h
  split at h
  case h_1 hsel | h_3 hsel | h_5 hsel | h_7 hsel | h_10 hsel =>
    exact atomicKeep_readFrom hop hsel h fun _ _ _ => ⟨rfl, rfl, nofun⟩
  case h_2 hsel | h_4 hsel | h_6 hsel | h_8 hsel | h_9 hsel =>
    exact atomicFetch_readFrom hop hsel h fun _ _ _ hw => ⟨hw, rfl, nofun⟩
  case h_11 => cases h

theorem atomic64_readFrom (hop : f.opcode.toNat = 0xdb) (h : f.atomic64 = .ok i) : ReadFrom disp f next i := by
  unfold Fields.atomic64 at h
  split at h
  case h_1 hsel | h_3 hsel | h_5 hsel | h_7 hsel | h_10 hsel =>
    exact atomicKeep_readFrom hop hsel h fun _ _ _ => ⟨rfl, rfl, nofun⟩
  case h_2 hsel | h_4 hsel | h_6 hsel | h_8 hsel | h_9 hsel =>
    exact atomicFetch_readFrom hop hsel h fun _ _ _ hw => ⟨hw, rfl, nofun⟩
  case h_11 => cases h

theorem call_readFrom (hop : f.opcode.toNat = 0x85) (h : f.call disp = .ok i) : ReadFrom disp f next i := by
  obtain ⟨hsrc, hdst, hoff, rfl⟩ | ⟨hsrc, hdst, hok, rfl⟩ | ⟨hsrc, hdst, hoff, rfl⟩ := call_eq_ok_iff.mp h
  · exact ⟨rfl, (fields_eq hop hdst hsrc hoff rfl).symm, nofun⟩
  · exact ⟨hok, (fields_eq hop hdst hsrc rfl rfl).symm, nofun⟩
  · exact ⟨rfl, (fields_eq hop hdst hsrc hoff rfl).symm, nofun⟩

theorem wide_readFrom {mk : Reg → BitVec 32 → BitVec 32 → Instr} {sub : Nat} (hop : f.opcode.toNat = 0x18)
    (hsub : f.src.toNat = sub) (h : f.wide next mk = .ok i)
    (hmk : ∀ dst imm v, dst.writable = true →
      ReadFrom disp ⟨0x18, dst.number, BitVec.ofNat 4 sub, 0, imm⟩ (some ⟨0, 0, 0, 0, v⟩) (mk dst imm v)) :
    ReadFrom disp f next i := by
  obtain ⟨dst, ⟨hdst, hw⟩, hoff, v, rfl, rfl⟩ := wide_eq_ok_iff.mp h
  have hsrc : f.src = BitVec.ofNat 4 sub := by rw [← hsub, BitVec.ofNat_toNat, BitVec.setWidth_eq]
  rw [fields_eq hop hdst hsrc hoff rfl]
  exact hmk dst _ v hw

theorem wideZero_readFrom {mk : Reg → BitVec 32 → Instr} {sub : Nat} (hop : f.opcode.toNat = 0x18)
    (hsub : f.src.toNat = sub) (h : f.wideZero next mk = .ok i)
    (hmk : ∀ dst imm, dst.writable = true →
      ReadFrom disp ⟨0x18, dst.number, BitVec.ofNat 4 sub, 0, imm⟩ (some ⟨0, 0, 0, 0, 0⟩) (mk dst imm)) :
    ReadFrom disp f next i := by
  obtain ⟨dst, ⟨hdst, hw⟩, hoff, rfl, rfl⟩ := wideZero_eq_ok_iff.mp h
  have hsrc : f.src = BitVec.ofNat 4 sub := by rw [← hsub, BitVec.ofNat_toNat, BitVec.setWidth_eq]
  rw [fields_eq hop hdst hsrc hoff rfl]
  exact hmk dst _ hw

theorem imm64_readFrom (hop : f.opcode.toNat = 0x18) (h : f.imm64 next = .ok i) : ReadFrom disp f next i := by
  unfold Fields.imm64 at h
  split at h
  case h_1 hsub | h_3 hsub | h_7 hsub =>
    exact wide_readFrom hop hsub h fun _ _ _ hw => ⟨hw, rfl, by rintro _ ⟨⟩; rfl⟩
  case h_2 hsub | h_4 hsub | h_5 hsub | h_6 hsub =>
    exact wideZero_readFrom hop hsub h fun _ _ hw => ⟨hw, rfl, by rintro _ ⟨⟩; rfl⟩
  case h_8 => cases h

/-! ### The opcode tables (`30_encoding.md` R151) -/

theorem decodeLd_readFrom (h : f.decodeLd next = .ok i) : ReadFrom disp f next i := by
  unfold Fields.decodeLd at h
  split at h
  case h_1 hop => exact imm64_readFrom hop h
  case h_10 => cases h
  all_goals
    rename_i hop
    cases h
    exact ⟨rfl, (fields_eq hop rfl rfl rfl rfl).symm, nofun⟩

theorem decodeLdx_readFrom (h : f.decodeLdx = .ok i) : ReadFrom disp f next i := by
  unfold Fields.decodeLdx at h
  split at h
  case h_8 => cases h
  all_goals
    rename_i hop
    exact load_readFrom hop h fun _ _ _ hw => ⟨hw, rfl, nofun⟩

theorem decodeSt_readFrom (h : f.decodeSt = .ok i) : ReadFrom disp f next i := by
  unfold Fields.decodeSt at h
  split at h
  case h_5 => cases h
  all_goals
    rename_i hop
    exact jumpImm_readFrom hop h fun _ _ _ => ⟨rfl, rfl, nofun⟩

theorem decodeStx_readFrom (h : f.decodeStx = .ok i) : ReadFrom disp f next i := by
  unfold Fields.decodeStx at h
  split at h
  case h_1 hop | h_2 hop | h_3 hop | h_4 hop =>
    exact twoReads_readFrom hop h fun _ _ _ => ⟨rfl, rfl, nofun⟩
  case h_5 hop => exact atomic32_readFrom hop h
  case h_6 hop => exact atomic64_readFrom hop h
  case h_7 => cases h

theorem decodeAlu_readFrom (h : f.decodeAlu = .ok i) : ReadFrom disp f next i := by
  unfold Fields.decodeAlu at h
  split at h
  case h_1 hop | h_3 hop | h_5 hop | h_9 hop | h_11 hop | h_13 hop | h_15 hop | h_20 hop | h_22 hop | h_24 hop =>
    exact plainImm_readFrom hop h fun _ _ hw => ⟨hw, rfl, nofun⟩
  case h_2 hop | h_4 hop | h_6 hop | h_10 hop | h_12 hop | h_14 hop | h_16 hop | h_21 hop | h_25 hop =>
    exact plainReg_readFrom hop h fun _ _ hw => ⟨hw, rfl, nofun⟩
  case h_7 hop | h_18 hop =>
    exact signedImm_readFrom hop h (fun _ _ hw => ⟨hw, rfl, nofun⟩) fun _ _ hw => ⟨hw, rfl, nofun⟩
  case h_8 hop | h_19 hop =>
    exact signedReg_readFrom hop h (fun _ _ hw => ⟨hw, rfl, nofun⟩) fun _ _ hw => ⟨hw, rfl, nofun⟩
  case h_17 hop => exact negate_readFrom hop h fun _ hw => ⟨hw, rfl, nofun⟩
  case h_23 hop => exact move32_readFrom hop h
  case h_26 hop | h_27 hop =>
    exact swap_readFrom hop h (fun _ hw => ⟨hw, rfl, nofun⟩) (fun _ hw => ⟨hw, rfl, nofun⟩)
      fun _ hw => ⟨hw, rfl, nofun⟩
  case h_28 => cases h

theorem decodeAlu64_readFrom (h : f.decodeAlu64 = .ok i) : ReadFrom disp f next i := by
  unfold Fields.decodeAlu64 at h
  split at h
  case h_1 hop | h_3 hop | h_5 hop | h_9 hop | h_11 hop | h_13 hop | h_15 hop | h_20 hop | h_22 hop | h_24 hop =>
    exact plainImm_readFrom hop h fun _ _ hw => ⟨hw, rfl, nofun⟩
  case h_2 hop | h_4 hop | h_6 hop | h_10 hop | h_12 hop | h_14 hop | h_16 hop | h_21 hop | h_25 hop =>
    exact plainReg_readFrom hop h fun _ _ hw => ⟨hw, rfl, nofun⟩
  case h_7 hop | h_18 hop =>
    exact signedImm_readFrom hop h (fun _ _ hw => ⟨hw, rfl, nofun⟩) fun _ _ hw => ⟨hw, rfl, nofun⟩
  case h_8 hop | h_19 hop =>
    exact signedReg_readFrom hop h (fun _ _ hw => ⟨hw, rfl, nofun⟩) fun _ _ hw => ⟨hw, rfl, nofun⟩
  case h_17 hop => exact negate_readFrom hop h fun _ hw => ⟨hw, rfl, nofun⟩
  case h_23 hop => exact move64_readFrom hop h
  case h_26 hop =>
    exact swap_readFrom hop h (fun _ hw => ⟨hw, rfl, nofun⟩) (fun _ hw => ⟨hw, rfl, nofun⟩)
      fun _ hw => ⟨hw, rfl, nofun⟩
  case h_27 => cases h

theorem decodeJmp_readFrom (h : f.decodeJmp disp = .ok i) : ReadFrom disp f next i := by
  unfold Fields.decodeJmp at h
  split at h
  case h_1 hop =>
    obtain ⟨hdst, hsrc, himm, rfl⟩ := jumpAlways_eq_ok_iff.mp h
    exact ⟨rfl, (fields_eq hop hdst hsrc rfl himm).symm, nofun⟩
  case h_2 hop | h_4 hop | h_6 hop | h_8 hop | h_10 hop | h_12 hop | h_14 hop | h_18 hop | h_20 hop | h_22 hop
    | h_24 hop =>
    exact jumpImm_readFrom hop h fun _ _ _ => ⟨rfl, rfl, nofun⟩
  case h_3 hop | h_5 hop | h_7 hop | h_9 hop | h_11 hop | h_13 hop | h_15 hop | h_19 hop | h_21 hop | h_23 hop
    | h_25 hop =>
    exact twoReads_readFrom hop h fun _ _ _ => ⟨rfl, rfl, nofun⟩
  case h_16 hop => exact call_readFrom hop h
  case h_17 hop =>
    obtain ⟨hdst, hsrc, hoff, himm, rfl⟩ := exit_eq_ok_iff.mp h
    exact ⟨rfl, (fields_eq hop hdst hsrc hoff himm).symm, nofun⟩
  case h_26 => cases h

theorem decodeJmp32_readFrom (h : f.decodeJmp32 = .ok i) : ReadFrom disp f next i := by
  unfold Fields.decodeJmp32 at h
  split at h
  case h_1 hop =>
    obtain ⟨hdst, hsrc, hoff, rfl⟩ := jumpAlways32_eq_ok_iff.mp h
    exact ⟨rfl, (fields_eq hop hdst hsrc hoff rfl).symm, nofun⟩
  case h_2 hop | h_4 hop | h_6 hop | h_8 hop | h_10 hop | h_12 hop | h_14 hop | h_16 hop | h_18 hop | h_20 hop
    | h_22 hop =>
    exact jumpImm_readFrom hop h fun _ _ _ => ⟨rfl, rfl, nofun⟩
  case h_3 hop | h_5 hop | h_7 hop | h_9 hop | h_11 hop | h_13 hop | h_15 hop | h_17 hop | h_19 hop | h_21 hop
    | h_23 hop =>
    exact twoReads_readFrom hop h fun _ _ _ => ⟨rfl, rfl, nofun⟩
  case h_24 => cases h

/-- Whatever the decoder reads is well-formed and is read from its own fields. -/
theorem decodeFields_readFrom (h : decodeFields disp f next = .ok i) : ReadFrom disp f next i := by
  unfold decodeFields at h
  split at h
  · exact decodeLd_readFrom h
  · exact decodeLdx_readFrom h
  · exact decodeSt_readFrom h
  · exact decodeStx_readFrom h
  · exact decodeAlu_readFrom h
  · exact decodeJmp_readFrom h
  · exact decodeJmp32_readFrom h
  · exact decodeAlu64_readFrom h

end Decoders

/-! ### The round trips -/

/-- Settles O47: the fields of the encoded slots are those of the instruction, and they are read back shape by shape. -/
theorem decodeEncodeRoundTrip : Obligations.DecodeEncodeRoundTrip := by
  intro e disp i rest h
  rw [encode, List.cons_append, decode, Fields.slot_fields]
  refine decodeFields_fields h fun v hv => ?_
  simp [hv, secondSlot]

/-- Only the wide instructions have a second slot, and they share one opcode (`30_encoding.md` R117). -/
theorem second_isSome_eq (i : Instr) : i.second.isSome = (i.fields.opcode == 0x18) := by
  cases i with
  | ldAbs size _ _ _ _ | ldInd size _ _ _ _ => cases size <;> rfl
  | _ => rfl

theorem encode_length (e : Endian) (i : Instr) : (encode e i).length = if i.fields.opcode = 0x18 then 2 else 1 := by
  have h := second_isSome_eq i
  cases hv : i.second with
  | none => simp_all [encode]
  | some v => simp_all [encode]

/-- The slots from which an instruction is read begin with its encoding. -/
theorem encode_of_readFrom {e : Endian} {disp : LocalCallDisp} {slot : Slot} {rest : List Slot} {i : Instr}
    (h : ReadFrom disp (slot.fields e) (rest.head?.map (Slot.fields e)) i) :
    ∃ tail, slot :: rest = encode e i ++ tail := by
  rw [encode, h.fields, slot_of_fields]
  cases hv : i.second with
  | none => exact ⟨rest, rfl⟩
  | some v =>
    obtain ⟨g, hg, hfields⟩ := Option.map_eq_some_iff.mp (h.second v hv)
    obtain ⟨tail, rfl⟩ := List.head?_eq_some_iff.mp hg
    have hslot : secondSlot e v = g := by rw [secondSlot, ← hfields, slot_of_fields]
    exact ⟨tail, by simp [hslot]⟩

/-- Settles O48: every shape reads an instruction from all its fields, and a slot is the slot of its fields. -/
theorem encodeDecodeRoundTrip : Obligations.EncodeDecodeRoundTrip := by
  intro e disp slot rest i h
  have hread := decodeFields_readFrom h
  refine ⟨hread.wf, encode_of_readFrom hread, ?_⟩
  rw [encode_length, hread.fields, Slot.fields_opcode]

end Sys2Proof.Claims
end

section
/-! PROOFS. What the round trips say about slots and fields: the read-only frame pointer (O56), the faults of slots that
decode to nothing (O43), the fields of a slot (O46) and the words of the spec (O57). -/

namespace Sys2Proof.Claims

open Sys2Proof.Machine

/-! ### Slots that decode to nothing -/

/-- Settles O43: the fault of the fetch, with its words as the sums of R112. -/
theorem illegalSlotsFault : Obligations.IllegalSlotsFault := by
  intro s slot rest why hs hpc hp hd
  rw [step_of_decode_error hs hpc hp hd, State.illegalAt]
  simp only [Slot.fields_opcode, word_eq_wordOf]

/-! ### The fields of a slot (`30_encoding.md` R112) -/

theorem toNat_low_nibble (b : Byte) : (b.extractLsb' 0 4).toNat = b.toNat % 16 := by
  rw [BitVec.extractLsb'_toNat, Nat.shiftRight_zero]

theorem toNat_high_nibble (b : Byte) : (b.extractLsb' 4 4).toNat = b.toNat / 16 := by
  rw [BitVec.extractLsb'_toNat, Nat.shiftRight_eq_div_pow]
  exact Nat.mod_eq_of_lt (by omega)

/-- Settles O46: nibbles and bytes join to the sums of R112 in either order, and `word` is one more such sum. -/
theorem logicalWord : Obligations.LogicalWord := by
  refine ⟨word_eq_wordOf, fun s => ⟨rfl, toNat_low_nibble _, toNat_high_nibble _, ?_, ?_⟩,
    fun s => ⟨rfl, toNat_high_nibble _, toNat_low_nibble _, toNat_append_eq_add _ _, ?_⟩, fun s => ?_⟩
  all_goals
    simp only [Fields.word, Slot.fields, toNat_append_eq_add, toNat_low_nibble, toNat_high_nibble]
    omega

/-! ### The frame pointer (`10_state.md` R32) -/

theorem number_le (r : Reg) : r.number.toNat ≤ 10 := by cases r <;> decide

theorem number_ne_of_writable {r : Reg} (h : r.writable = true) : r.number ≠ 10 := by
  revert h
  cases r <;> decide

theorem opcode_mem_legacyOpcodes (size : MemSize) (dst src : BitVec 4) (off : BitVec 16) (imm : BitVec 32) :
    (Instr.ldAbs size dst src off imm).fields.opcode.toNat ∈ legacyOpcodes ∧
      (Instr.ldInd size dst src off imm).fields.opcode.toNat ∈ legacyOpcodes := by
  cases size <;> simp [Instr.fields, MemSize.bits, legacyOpcodes]

/-- Outside the legacy rows a register field is the number of a register, a subtype or zero. -/
theorem register_fields_le {i : Instr} (h : i.fields.opcode.toNat ∉ legacyOpcodes) :
    i.fields.dst.toNat ≤ 10 ∧ i.fields.src.toNat ≤ 10 := by
  cases i with
  | ldAbs size dst src off imm => exact absurd (opcode_mem_legacyOpcodes size dst src off imm).1 h
  | ldInd size dst src off imm => exact absurd (opcode_mem_legacyOpcodes size dst src off imm).2 h
  | _ => simp [Instr.fields, number_le]

/-- The field `dst_reg` of the arithmetic instructions, the loads and opcode 0x18 is a written one. -/
theorem dst_ne_of_wf {disp : LocalCallDisp} {i : Instr} (hl : i.fields.opcode.toNat ∉ legacyOpcodes)
    (h : i.fields.opcode.toNat % 8 ∈ [1, 4, 7] ∨ i.fields.opcode = 0x18) (hw : i.wf disp = true) :
    i.fields.dst ≠ 10 := by
  cases i with
  | ldAbs size dst src off imm => exact absurd (opcode_mem_legacyOpcodes size dst src off imm).1 hl
  | ldInd size dst src off imm => exact absurd (opcode_mem_legacyOpcodes size dst src off imm).2 hl
  | add64K _ _ | sub64K _ _ | mul64K _ _ | div64K _ _ | sdiv64K _ _ | or64K _ _ | and64K _ _ | lsh64K _ _
  | rsh64K _ _ | mod64K _ _ | smod64K _ _ | xor64K _ _ | mov64K _ _ | arsh64K _ _ | neg64 _
  | add64X _ _ | sub64X _ _ | mul64X _ _ | div64X _ _ | sdiv64X _ _ | or64X _ _ | and64X _ _ | lsh64X _ _
  | rsh64X _ _ | mod64X _ _ | smod64X _ _ | xor64X _ _ | mov64X _ _ | arsh64X _ _ | movsx64From8 _ _
  | movsx64From16 _ _ | movsx64From32 _ _ | add32K _ _ | sub32K _ _ | mul32K _ _ | div32K _ _ | sdiv32K _ _
  | or32K _ _ | and32K _ _ | lsh32K _ _ | rsh32K _ _ | mod32K _ _ | smod32K _ _ | xor32K _ _ | mov32K _ _
  | arsh32K _ _ | neg32 _ | add32X _ _ | sub32X _ _ | mul32X _ _ | div32X _ _ | sdiv32X _ _ | or32X _ _
  | and32X _ _ | lsh32X _ _ | rsh32X _ _ | mod32X _ _ | smod32X _ _ | xor32X _ _ | mov32X _ _ | arsh32X _ _
  | movsx32From8 _ _ | movsx32From16 _ _ | le16 _ | be16 _ | bswap16 _ | le32 _ | be32 _ | bswap32 _ | le64 _
  | be64 _ | bswap64 _ | ldxb _ _ _ | ldxh _ _ _ | ldxw _ _ _ | ldxdw _ _ _ | ldxsb _ _ _ | ldxsh _ _ _
  | ldxsw _ _ _ | lddw _ _ _ | ldMapValFd _ _ _ | ldMapValIdx _ _ _ | ldMapFd _ _ | ldVarAddr _ _
  | ldCodeAddr _ _ | ldMapIdx _ _ => exact number_ne_of_writable hw
  | _ => simp [Instr.fields] at h

/-- The field `src_reg` of the atomic operations with `BPF_FETCH` and of the exchanges is a written one. -/
theorem src_ne_of_wf {disp : LocalCallDisp} {i : Instr} (hop : i.fields.opcode = 0xc3 ∨ i.fields.opcode = 0xdb)
    (h : i.fields.imm.toNat ∈ [0x01, 0x41, 0x51, 0xa1, 0xe1]) (hw : i.wf disp = true) : i.fields.src ≠ 10 := by
  cases i with
  | ldAbs size _ _ _ _ | ldInd size _ _ _ _ => cases size <;> simp [Instr.fields, MemSize.bits] at hop
  | atomicFetchAdd32 _ _ _ | atomicFetchOr32 _ _ _ | atomicFetchAnd32 _ _ _ | atomicFetchXor32 _ _ _
  | atomicXchg32 _ _ _ | atomicFetchAdd64 _ _ _ | atomicFetchOr64 _ _ _ | atomicFetchAnd64 _ _ _
  | atomicFetchXor64 _ _ _ | atomicXchg64 _ _ _ => exact number_ne_of_writable hw
  | atomicAdd32 _ _ _ | atomicOr32 _ _ _ | atomicAnd32 _ _ _ | atomicXor32 _ _ _ | atomicAdd64 _ _ _
  | atomicOr64 _ _ _ | atomicAnd64 _ _ _ | atomicXor64 _ _ _ | atomicCmpxchg32 _ _ _ | atomicCmpxchg64 _ _ _ =>
    simp [Instr.fields] at h
  | _ => simp [Instr.fields] at hop

/-- Fields that can only belong to an ill-formed instruction are refused. -/
theorem decodeFields_refused {disp : LocalCallDisp} {f : Fields} {next : Option Fields}
    (h : ∀ i : Instr, i.wf disp = true → i.fields ≠ f) : ∃ why, decodeFields disp f next = .error why := by
  cases hd : decodeFields disp f next with
  | error why => exact ⟨why, rfl⟩
  | ok i =>
    have hread := decodeFields_readFrom hd
    exact absurd hread.fields (h i hread.wf)

theorem decodesBack_of_wf {i : Instr} (h : ∀ disp, i.wf disp = true) : decodesBack i :=
  fun e disp rest => decodeEncodeRoundTrip e disp i rest (h disp)

/-! Where each list of forms puts its registers, and which of them it writes. -/

theorem arithmeticForms_fields : ∀ mk ∈ arithmeticForms, ∀ (dst src : Reg) (disp : LocalCallDisp),
    (mk dst src).fields.src = src.number ∧ (mk dst src).wf disp = dst.writable := by
  simp only [arithmeticForms, List.mem_cons, List.not_mem_nil, or_false, forall_eq_or_imp, forall_eq]
  and_intros <;> exact fun _ _ _ => ⟨rfl, rfl⟩

theorem loadForms_fields : ∀ mk ∈ loadForms, ∀ (dst src : Reg) (off : BitVec 16) (disp : LocalCallDisp),
    (mk dst src off).fields.src = src.number ∧ (mk dst src off).wf disp = dst.writable := by
  simp only [loadForms, List.mem_cons, List.not_mem_nil, or_false, forall_eq_or_imp, forall_eq]
  and_intros <;> exact fun _ _ _ _ => ⟨rfl, rfl⟩

theorem immediateForms_fields : ∀ mk ∈ immediateForms, ∀ (dst : Reg) (off : BitVec 16) (imm : BitVec 32)
    (disp : LocalCallDisp), (mk dst off imm).fields.dst = dst.number ∧ (mk dst off imm).wf disp = true := by
  simp only [immediateForms, List.mem_cons, List.not_mem_nil, or_false, forall_eq_or_imp, forall_eq]
  and_intros <;> exact fun _ _ _ _ => ⟨rfl, rfl⟩

theorem readBothForms_fields : ∀ mk ∈ readBothForms, ∀ (dst src : Reg) (off : BitVec 16) (disp : LocalCallDisp),
    (mk dst src off).fields.dst = dst.number ∧ (mk dst src off).fields.src = src.number ∧
      (mk dst src off).wf disp = true := by
  simp only [readBothForms, List.mem_cons, List.not_mem_nil, or_false, forall_eq_or_imp, forall_eq]
  and_intros <;> exact fun _ _ _ _ => ⟨rfl, rfl, rfl⟩

theorem fetchForms_fields : ∀ mk ∈ fetchForms, ∀ (dst src : Reg) (off : BitVec 16) (disp : LocalCallDisp),
    (mk dst src off).fields.dst = dst.number ∧ (mk dst src off).wf disp = src.writable := by
  simp only [fetchForms, List.mem_cons, List.not_mem_nil, or_false, forall_eq_or_imp, forall_eq]
  and_intros <;> exact fun _ _ _ _ => ⟨rfl, rfl⟩

/-- A well-formed instruction that may change R10 changes it as a call or a return, not by a field. -/
theorem call_or_exit_of_writes_r10 {disp : LocalCallDisp} {i : Instr} (hw : i.wf disp = true)
    (h : Reg.r10 ∈ writesOf i) : i = .exit ∨ ∃ offset imm, i = .callLocal offset imm := by
  cases i with
  | exit => exact .inl rfl
  | callLocal offset imm => exact .inr ⟨offset, imm, rfl⟩
  | _ =>
    simp [writesOf] at h <;> (subst h; cases hw)

/-- Settles O56: what decodes is well-formed, so a written field never holds 10; and the forms with R10 in a field that
is only read are well-formed, so they decode. -/
theorem framePointerIsReadOnly : Obligations.FramePointerIsReadOnly := by
  refine ⟨fun disp f next hl => ⟨fun hbig => ?_, fun hclass hdst => ?_, fun hop himm hsrc => ?_⟩,
    fun disp next offset => ⟨decodeFields_fields (i := .stxdw .r10 .r10 offset) rfl nofun,
      decodeFields_fields (i := .jeq64X .r10 .r10 offset) rfl nofun,
      decodeFields_fields (i := .atomicCmpxchg64 .r10 .r10 offset) rfl nofun, rfl⟩, fun mk hmk dst hdst => ?_,
    fun mk hmk dst offset hdst => ?_, fun mk hmk offset imm => ?_, fun mk hmk r offset => ?_,
    fun mk hmk src offset hsrc => ?_, fun disp i => call_or_exit_of_writes_r10⟩
  · refine decodeFields_refused fun i _ hf => ?_
    have hle := register_fields_le (i := i) (hf ▸ hl)
    rw [hf] at hle
    omega
  · refine decodeFields_refused fun i hw hf => ?_
    subst hf
    exact dst_ne_of_wf hl hclass hw hdst
  · refine decodeFields_refused fun i hw hf => ?_
    subst hf
    exact src_ne_of_wf hop himm hw hsrc
  · have h := arithmeticForms_fields mk hmk dst .r10
    exact ⟨(h .imm).1, decodesBack_of_wf fun disp => (h disp).2.trans (writable_eq_true_iff.mpr hdst)⟩
  · have h := loadForms_fields mk hmk dst .r10 offset
    exact ⟨(h .imm).1, decodesBack_of_wf fun disp => (h disp).2.trans (writable_eq_true_iff.mpr hdst)⟩
  · have h := immediateForms_fields mk hmk .r10 offset imm
    exact ⟨(h .imm).1, decodesBack_of_wf fun disp => (h disp).2⟩
  · have h := readBothForms_fields mk hmk .r10 r offset
    have h' := readBothForms_fields mk hmk r .r10 offset
    exact ⟨(h .imm).1, decodesBack_of_wf fun disp => (h disp).2.2, (h' .imm).2.1,
      decodesBack_of_wf fun disp => (h' disp).2.2⟩
  · have h := fetchForms_fields mk hmk .r10 src offset
    exact ⟨(h .imm).1, decodesBack_of_wf fun disp => (h disp).2.trans (writable_eq_true_iff.mpr hsrc)⟩

/-! ### The words of the spec -/

/-- Settles O57, by running the decoder on each word. -/
theorem specWordsDecode : Obligations.SpecWordsDecode := by
  unfold Obligations.SpecWordsDecode
  and_intros <;> rfl

end Sys2Proof.Claims
end

section
/-! PROOFS. The step as a whole: every running state has a next one (O38, O41), what a step leaves unchanged (O34, O36),
how an execution ends well (O40), and the invariant of an execution: kept by every step (O49), held at the launch
(O50, O52), and what it gives a program (O51, O53); with the updates of the register file (O54). -/

namespace Sys2Proof.Claims

open Sys2Proof.Machine

/-! ### What a step can answer -/

/-- A step that answers runs a decoded instruction to completion, or takes a fault on the state before it. -/
theorem step_outcome {s t : State} (h : step s = .next t) :
    (∃ i, s.fetch = .ok i ∧ Completed i s t) ∨ ∃ k, t = s.raise k := by
  rw [step, status_running_of_step h] at h
  cases hf : s.fetch with
  | error k =>
    simp only [hf, Host.Outcome.next.injEq] at h
    exact .inr ⟨k, h.symm⟩
  | ok i =>
    simp only [hf] at h
    exact (exec_outcome h).imp_left fun hc => ⟨i, rfl, hc⟩

theorem attempt_isNext (s : State) (r : Except FaultInfo State) : ∃ t, s.attempt r = .next t := by
  cases r with
  | ok t => exact ⟨t, rfl⟩
  | error k => exact ⟨s.raise k, rfl⟩

/-- Settles O38: a fault of the fetch is a next state, and every instruction is an attempt. -/
theorem everyRunningStateSteps : Obligations.EveryRunningStateSteps := by
  intro s hs
  rw [step, hs]
  cases s.fetch with
  | error k => exact ⟨s.raise k, rfl⟩
  | ok i =>
    obtain ⟨x, hx, -⟩ := exec_readsFirst i s
    obtain ⟨t, ht⟩ := attempt_isNext s x
    exact ⟨t, hx.trans ht⟩

/-- Settles O41: only slots that are there decode. -/
theorem stepRunsDecodedInstruction : Obligations.StepRunsDecodedInstruction := by
  intro s i hs hpc hd
  cases hp : s.prog.drop s.pc.toNat with
  | nil =>
    rw [hp] at hd
    cases hd
  | cons slot rest => exact step_of_decode_ok hs hpc hp (hp ▸ hd)

/-! ### What a step leaves unchanged -/

theorem Completed.prog_cfg {i : Instr} {s t : State} (h : Completed i s t) : t.prog = s.prog ∧ t.cfg = s.cfg := by
  cases h with
  | wrote | kept | jumped | helped | entered | left | finished => exact ⟨rfl, rfl⟩

/-- Settles O36: neither a completion nor a fault changes the program or the parameters. -/
theorem parametersNeverChange : Obligations.ParametersNeverChange := by
  intro s t h
  obtain ⟨i, -, hc⟩ | ⟨k, rfl⟩ := step_outcome h
  · exact hc.prog_cfg
  · exact ⟨rfl, rfl⟩

/-- Settles O34: of the completions only a local call and a return touch the call stack, and no other writes R10. -/
theorem callStackDiscipline : Obligations.CallStackDiscipline := by
  intro s t h
  obtain ⟨i, hf, hc⟩ | ⟨k, rfl⟩ := step_outcome h
  · cases hc with
    | wrote => exact .inl ⟨rfl, RegFile.put_frame _ _ _⟩
    | kept | jumped | helped | finished => exact .inl ⟨rfl, rfl⟩
    | entered offset imm => exact .inr (.inl ⟨offset, imm, s.frameNow, hf, rfl, rfl, rfl⟩)
    | left hr hframes => exact .inr (.inr ⟨_, hf, hframes, rfl⟩)
  · exact .inl ⟨rfl, rfl⟩

/-- Settles O40: every other completion leaves the execution running. -/
theorem exitIsTheOnlyGoodEnd : Obligations.ExitIsTheOnlyGoodEnd := by
  intro s t v hs h ht
  obtain ⟨i, hf, hc⟩ | ⟨k, rfl⟩ := step_outcome h
  · cases hc with
    | finished hr hframes =>
      cases ht
      exact ⟨hf, hframes, hr, rfl⟩
    | wrote | kept | jumped | helped | entered | left => cases hs.symm.trans ht
  · cases ht

/-! ### The invariant -/

theorem inv_iff {s : State} :
    s.inv = true ↔ s.mem.wf = true ∧ s.frames.length + 1 ≤ s.cfg.maxCallDepth ∧
      s.regs.r10 = framePointerAt s.cfg s.frames.length ∧ recordsOk s.cfg s.frames = true := by
  simp [State.inv, and_assoc]

theorem MemoryAfter.wf {i : Instr} {s : State} {m : Memory} (h : MemoryAfter i s m) (hs : s.mem.wf = true) :
    m.wf = true := by
  obtain rfl | ⟨_, _, _, _, _, _, -, -, -, -, rfl⟩ := h
  · exact hs
  · exact State.stored_wf _ _ _ hs

/-- One activation more is one frame lower (`20_memory.md` R80). -/
theorem framePointerAt_succ (c : Config) (depth : Nat) :
    framePointerAt c (depth + 1) = framePointerAt c depth - BitVec.ofNat 64 c.stackSize := by
  simp only [framePointerAt, Nat.mul_succ, BitVec.ofNat_add, BitVec.sub_eq_add_neg, BitVec.neg_add, BitVec.add_assoc]

theorem recordsOk_cons {c : Config} {f : Frame} {fs : List Frame} :
    recordsOk c (f :: fs) = true ↔ f.fp = framePointerAt c fs.length ∧ recordsOk c fs = true := by
  simp [recordsOk]

theorem Completed.inv {i : Instr} {s t : State} (h : Completed i s t) (hs : s.inv = true) : t.inv = true := by
  obtain ⟨hmem, hdepth, hfp, hrecords⟩ := inv_iff.mp hs
  rw [inv_iff]
  cases h with
  | wrote v draws _ _ hm => exact ⟨hm.wf hmem, hdepth, (RegFile.put_frame _ _ _).trans hfp, hrecords⟩
  | kept draws _ hm => exact ⟨hm.wf hmem, hdepth, hfp, hrecords⟩
  | jumped | finished => exact ⟨hmem, hdepth, hfp, hrecords⟩
  | helped r ws _ => exact ⟨Memory.wf_apply ws hmem, hdepth, hfp, hrecords⟩
  | entered offset imm hlt =>
    exact ⟨hmem, hlt, by rw [State.enter_frames, List.length_cons, State.enter_cfg, framePointerAt_succ, ← hfp]; rfl,
      recordsOk_cons.mpr ⟨hfp, hrecords⟩⟩
  | left _ hframes =>
    rw [hframes, List.length_cons] at hdepth
    rw [hframes, recordsOk_cons] at hrecords
    exact ⟨hmem, Nat.le_of_succ_le hdepth, hrecords⟩

/-- Settles O49: a fault changes nothing the invariant speaks of, and every completion keeps it. -/
theorem invariantKeptByEveryStep : Obligations.InvariantKeptByEveryStep := by
  intro s t hs h
  obtain ⟨i, -, hc⟩ | ⟨k, rfl⟩ := step_outcome h
  · exact hc.inv hs
  · exact hs

/-! ### The launch -/

theorem framePointerAt_zero (c : Config) : framePointerAt c 0 = c.stackTop := by
  simp [framePointerAt]

theorem launch_inv {c : Config} (p : List Slot) (args : List Word) {m : Memory} (hm : m.wf = true)
    (hd : 1 ≤ c.maxCallDepth) : (State.launch c p args m).inv = true :=
  inv_iff.mpr ⟨launch_memory_wf c p args hm, hd, (framePointerAt_zero c).symm, rfl⟩

/-- Settles O50: the reset state is a launch with no bytes of memory and a depth of 8. -/
theorem invariantAtLaunch : Obligations.InvariantAtLaunch :=
  ⟨launch_inv _ _ rfl (by decide), fun _ p args _ => launch_inv p args⟩

/-- Settles O52: the bytes of a launch are those of the regions outside the stack. -/
theorem launchState : Obligations.LaunchState := by
  intro c p args m _
  refine ⟨rfl, rfl, fun k => ?args, fun r hr => ?saved, rfl, rfl, rfl, rfl, rfl, fun a => ?mem⟩
  case args =>
    match k with
    | 0 | 1 | 2 | 3 | 4 => rfl
  case saved =>
    revert r
    simp only [List.forall_mem_cons]
    exact ⟨rfl, rfl, rfl, rfl, nofun⟩
  case mem =>
    rw [State.launch_mem, Memory.byte?_only, launchByteAt, stackByteAt, regionHolds_stackArea]
    congr 1
    rw [Bool.and_eq_true, Bool.not_eq_true']
    rfl

/-! ### The current frame (`20_memory.md` R80) -/

/-- What R570 asks of the stack parameters and the sum that keeps every frame above 0. -/
theorem stack_fits_of_launchOk {c : Config} {args : List Word} (h : launchOk c args = true) :
    c.stackSize * c.maxCallDepth ≤ c.stackTop.toNat := by
  simp only [launchOk, stackParametersOk, Bool.and_eq_true, decide_eq_true_eq] at h
  obtain ⟨⟨⟨-, hfits⟩, -⟩, -⟩ := h
  exact hfits

theorem toNat_framePointerAt {c : Config} {depth : Nat} (h : c.stackSize * depth ≤ c.stackTop.toNat) :
    (framePointerAt c depth).toNat = c.stackTop.toNat - c.stackSize * depth := by
  have hlt := c.stackTop.isLt
  have hsub : (BitVec.ofNat 64 (c.stackSize * depth)).toNat = c.stackSize * depth :=
    Nat.mod_eq_of_lt (by omega)
  rw [framePointerAt, BitVec.toNat_sub_of_le (by rw [BitVec.le_def, hsub]; exact h), hsub]

/-- Settles O51: the frame of the current depth lies inside the stack area, which allows every kind of access. -/
theorem currentFrameIsAccessible : Obligations.CurrentFrameIsAccessible := by
  intro s args hl hs
  obtain ⟨-, hdepth, hfp, -⟩ := inv_iff.mp hs
  have hstack := stack_fits_of_launchOk hl
  have hframe : s.cfg.stackSize * s.frames.length + s.cfg.stackSize ≤ s.cfg.stackSize * s.cfg.maxCallDepth := by
    rw [← Nat.mul_succ]
    exact Nat.mul_le_mul_left _ hdepth
  have hr10 : s.regs.r10.toNat = s.cfg.stackTop.toNat - s.cfg.stackSize * s.frames.length := by
    rw [hfp]
    exact toNat_framePointerAt (by omega)
  refine ⟨by omega, fun a n k hlo hhi halign => ?_⟩
  have hadm : admitted s.cfg a n k = true := by
    have hfits : fits a n = true := decide_eq_true (by have := s.regs.r10.isLt; omega)
    have hinside : insideStack s.cfg a.toNat (sizeBytes n) = true := by
      rw [insideStack, Bool.and_eq_true, decide_eq_true_eq, decide_eq_true_eq]
      omega
    have haligned : alignedEnough s.cfg a n k = true := by cases k <;> simp [alignedEnough, halign]
    rw [admitted, hfits, allowed, hinside, haligned]
    rfl
  exact ⟨hadm, denial_eq_none_iff.mpr hadm⟩

/-! ### The canonical form -/

theorem risingFrom_cons {lo a : Nat} {v : Byte} {cs : List Host.Cell} :
    risingFrom lo ((a, v) :: cs) = true ↔ (lo ≤ a ∧ a < 2 ^ 64) ∧ risingFrom (a + 1) cs = true := by
  simp [risingFrom]

theorem lookup_cons_same (a : Nat) (v : Byte) (cs : List Host.Cell) : ((a, v) :: cs).lookup a = some v :=
  List.lookup_cons_self

theorem lookup_cons_other {a b : Nat} (v : Byte) (cs : List Host.Cell) (h : b ≠ a) :
    ((a, v) :: cs).lookup b = cs.lookup b := by
  rw [List.lookup_cons, beq_eq_false_iff_ne.mpr h]

/-- A list that rises from `lo` gives nothing below. -/
theorem lookup_eq_none_of_lt {lo a : Nat} {cs : List Host.Cell} (h : risingFrom lo cs = true) (ha : a < lo) :
    cs.lookup a = none := by
  induction cs generalizing lo with
  | nil => rfl
  | cons c cs ih =>
    obtain ⟨⟨hlo, -⟩, hrest⟩ := risingFrom_cons.mp h
    rw [lookup_cons_other _ _ (by omega)]
    exact ih hrest (by omega)

/-- The first address of a rising list is not above that of another with the same values. -/
theorem head_le_of_lookup_eq {lo a b : Nat} {v w : Byte} {cs ds : List Host.Cell}
    (hd : risingFrom lo ((b, w) :: ds) = true) (h : ((a, v) :: cs).lookup a = ((b, w) :: ds).lookup a) : b ≤ a := by
  obtain ⟨⟨-, hb⟩, hrest⟩ := risingFrom_cons.mp hd
  refine Nat.not_lt.mp fun hlt => ?_
  have hnone : ((b, w) :: ds).lookup a = none :=
    lookup_eq_none_of_lt (risingFrom_cons.mpr ⟨⟨Nat.le_refl _, hb⟩, hrest⟩) (by omega)
  rw [lookup_cons_same, hnone] at h
  cases h

/-- A rising list is determined by what it gives each address. -/
theorem eq_of_lookup_eq {lo : Nat} {cs ds : List Host.Cell} (hc : risingFrom lo cs = true)
    (hd : risingFrom lo ds = true) (h : ∀ a, cs.lookup a = ds.lookup a) : cs = ds := by
  induction cs generalizing lo ds with
  | nil =>
    cases ds with
    | nil => rfl
    | cons d ds => cases (h d.1).trans (lookup_cons_same d.1 d.2 ds)
  | cons c cs ih =>
    obtain ⟨a, v⟩ := c
    cases ds with
    | nil => cases (lookup_cons_same a v cs).symm.trans (h a)
    | cons d ds =>
      obtain ⟨b, w⟩ := d
      obtain rfl : a = b :=
        Nat.le_antisymm (head_le_of_lookup_eq hc (h b).symm) (head_le_of_lookup_eq hd (h a))
      have hvalue := h a
      rw [lookup_cons_same, lookup_cons_same] at hvalue
      obtain ⟨-, hc⟩ := risingFrom_cons.mp hc
      obtain ⟨-, hd⟩ := risingFrom_cons.mp hd
      rw [Option.some.inj hvalue, ih hc hd fun x => ?_]
      by_cases hx : x = a
      · rw [lookup_eq_none_of_lt hc (by omega), lookup_eq_none_of_lt hd (by omega)]
      · rw [← lookup_cons_other v cs hx, h x, lookup_cons_other w ds hx]

/-- Settles O53: the canonical form is a rising list. -/
theorem canonicalMemory : Obligations.CanonicalMemory := by
  rintro ⟨cs⟩ ⟨ds⟩ hc hd h
  exact congrArg Memory.mk (eq_of_lookup_eq hc hd h)

/-! ### The register file -/

/-- Settles O54: the updates of a register file are those of `Laws/State.lean`. -/
theorem registerFileUpdates : Obligations.RegisterFileUpdates :=
  fun f _ _ v => ⟨RegFile.get_put_same f v, RegFile.get_put_other f v, RegFile.put_r10 f v⟩

end Sys2Proof.Claims
end

section
/-! PROOFS. Bytes and values: the value of several bytes as the sum of R74, the bytes of a value as the quotients of
R75, what a read sees of each kind of byte (O58, O60), and that only its own store changes a byte (O33, O59). -/

namespace Sys2Proof.Claims

open Sys2Proof.Machine

/-! ### The value of several bytes (`20_memory.md` R74) -/

theorem littleSum_append (bs : List Byte) (b : Byte) :
    littleSum (bs ++ [b]) = littleSum bs + b.toNat * 2 ^ (8 * bs.length) := by
  induction bs with
  | nil => simp [littleSum]
  | cons c cs ih =>
    have hpow : 2 ^ (8 * (cs.length + 1)) = 256 * 2 ^ (8 * cs.length) := by rw [Nat.mul_succ, Nat.pow_add, Nat.mul_comm]
    simp only [List.cons_append, littleSum, ih, List.length_cons, hpow]
    rw [Nat.mul_add, Nat.mul_left_comm, Nat.add_assoc]

theorem littleSum_lt (bs : List Byte) : littleSum bs < 2 ^ (8 * bs.length) := by
  induction bs with
  | nil => simp [littleSum]
  | cons b bs ih =>
    have hb := b.isLt
    have hpow : 2 ^ (8 * (bs.length + 1)) = 256 * 2 ^ (8 * bs.length) := by rw [Nat.mul_succ, Nat.pow_add, Nat.mul_comm]
    rw [List.length_cons, hpow, littleSum]
    omega

theorem littleSum_map_range (f : Nat → Byte) (n : Nat) :
    littleSum ((List.range n).map f) = ((List.range n).map fun k => (f k).toNat * 2 ^ (8 * k)).sum := by
  induction n with
  | zero => rfl
  | succ n ih => simp [List.range_succ, littleSum_append, ih]

theorem reverse_map_range {α : Type} (g : Nat → α) (n : Nat) :
    ((List.range n).map g).reverse = (List.range n).map fun k => g (n - 1 - k) := by
  refine List.ext_getElem (by simp) fun k _ _ => ?_
  simp

/-- The bytes of a value from the lowest up, whatever the byte order. -/
def lowestFirst (e : Endian) (bs : List Byte) : List Byte :=
  match e with
  | .little => bs
  | .big => bs.reverse

theorem joinBytes_eq (e : Endian) (bs : List Byte) :
    joinBytes e bs = BitVec.ofNat 64 (littleSum (lowestFirst e bs)) := by
  cases e <;> rfl

theorem length_lowestFirst (e : Endian) (bs : List Byte) : (lowestFirst e bs).length = bs.length := by
  cases e
  · rfl
  · exact List.length_reverse

/-- The sum of R74 under either byte order. -/
theorem littleSum_lowestFirst (e : Endian) (f : Nat → Byte) (n : Nat) :
    littleSum (lowestFirst e ((List.range n).map f)) =
      ((List.range n).map fun k => (f k).toNat * weight e n k).sum := by
  cases e with
  | little => exact littleSum_map_range f n
  | big =>
    rw [lowestFirst, reverse_map_range, littleSum_map_range, ← List.sum_reverse (List.map _ _), reverse_map_range]
    refine congrArg List.sum (List.map_congr_left fun k hk => ?_)
    have hk := List.mem_range.mp hk
    rw [weight, show n - 1 - (n - 1 - k) = k by omega]

theorem readValue_eq (s : State) (a : Word) (n : MemSize) :
    readValue s a n = littleSum
      (lowestFirst s.cfg.endian ((List.range (sizeBytes n)).map fun k => s.seenByte (a.toNat + k))) :=
  (littleSum_lowestFirst _ _ _).symm

theorem readValue_lt (s : State) (a : Word) (n : MemSize) : readValue s a n < 2 ^ (8 * sizeBytes n) := by
  have h := littleSum_lt
    (lowestFirst s.cfg.endian ((List.range (sizeBytes n)).map fun k => s.seenByte (a.toNat + k)))
  rwa [length_lowestFirst, List.length_map, List.length_range, ← readValue_eq] at h

theorem valueAt_eq_readValue (s : State) (a : Word) (n : MemSize) :
    s.valueAt a n = BitVec.ofNat 64 (readValue s a n) := by
  rw [State.valueAt, joinBytes_eq, readValue_eq]

theorem eight_sizeBytes_le (n : MemSize) : 8 * sizeBytes n ≤ 64 := by cases n <;> decide

theorem toNat_valueAt (s : State) (a : Word) (n : MemSize) : (s.valueAt a n).toNat = readValue s a n := by
  rw [valueAt_eq_readValue]
  exact Nat.mod_eq_of_lt (Nat.lt_of_lt_of_le (readValue_lt s a n)
    (Nat.pow_le_pow_right (by decide) (eight_sizeBytes_le n)))

/-! ### The bytes of a value (`20_memory.md` R75) -/

theorem splitBytes_getElem? (e : Endian) {n k : Nat} (v : Word) (hk : k < n) :
    (splitBytes e n v)[k]? = some (BitVec.ofNat 8 (v.toNat / weight e n k)) := by
  cases e <;>
    simp [splitBytes, weight, hk, BitVec.extractLsb', Nat.shiftRight_eq_div_pow]

theorem weight_eq {e : Endian} {n k : Nat} (hk : k < n) : ∃ j < n, weight e n k = 2 ^ (8 * j) := by
  cases e with
  | little => exact ⟨k, hk, rfl⟩
  | big => exact ⟨n - 1 - k, by omega, rfl⟩

/-- A byte of a value below its width depends on the value modulo that width alone. -/
theorem byte_congr {x y n k : Nat} {e : Endian} (hk : k < n) (h : x % 2 ^ (8 * n) = y % 2 ^ (8 * n)) :
    BitVec.ofNat 8 (x / weight e n k) = BitVec.ofNat 8 (y / weight e n k) := by
  obtain ⟨j, hj, hw⟩ := weight_eq (e := e) hk
  have hbyte (z : Nat) : z / 2 ^ (8 * j) % 2 ^ 8 = z % 2 ^ (8 * n) % 2 ^ (8 * j + 8) / 2 ^ (8 * j) := by
    rw [Nat.mod_mod_of_dvd _ (Nat.pow_dvd_pow 2 (by omega)), Nat.pow_add, Nat.mod_mul_right_div_self]
  refine BitVec.eq_of_toNat_eq ?_
  rw [hw, BitVec.toNat_ofNat, BitVec.toNat_ofNat, hbyte, hbyte, h]

/-- The memory after a store of `v` holds the bytes of every number that `v` is modulo the width. -/
theorem storesBytes_stored {s : State} {a v : Word} {n : MemSize} {x : Nat} (hfits : a.toNat + sizeBytes n ≤ 2 ^ 64)
    (hx : v.toNat % 2 ^ (8 * sizeBytes n) = x % 2 ^ (8 * sizeBytes n)) : storesBytes s (s.stored a n v) a n x := by
  refine ⟨fun k hk => ?_, State.stored_outside s a n v⟩
  rw [State.stored_inside s a n v k hk hfits, splitBytes_getElem? _ _ hk, byte_congr hk hx]

theorem lowestFirst_splitBytes (e : Endian) (n : Nat) (v : Word) :
    lowestFirst e (splitBytes e n v) = splitBytes .little n v := by
  cases e with
  | little => rfl
  | big =>
    rw [lowestFirst, splitBytes, splitBytes, reverse_map_range]
    refine List.map_congr_left fun k hk => ?_
    have hk := List.mem_range.mp hk
    rw [show n - 1 - (n - 1 - k) = k by omega]

theorem littleSum_splitBytes (n : Nat) (v : Word) : littleSum (splitBytes .little n v) = v.toNat % 2 ^ (8 * n) := by
  induction n with
  | zero => simp [splitBytes, littleSum, Nat.mod_one]
  | succ n ih =>
    have hsplit : splitBytes .little (n + 1) v = splitBytes .little n v ++ [v.extractLsb' (8 * n) 8] := by
      simp [splitBytes, List.range_succ]
    rw [hsplit, littleSum_append, ih, splitBytes_length, BitVec.extractLsb'_toNat, Nat.shiftRight_eq_div_pow,
      Nat.mul_succ, Nat.pow_add, Nat.mod_mul, Nat.mul_comm (2 ^ (8 * n))]

/-- Joining the low bytes of a value gives its low bits back (`20_memory.md` R74, R75). -/
theorem joinBytes_splitBytes (e : Endian) (n : Nat) (v : Word) :
    joinBytes e (splitBytes e n v) = BitVec.ofNat 64 (v.toNat % 2 ^ (8 * n)) := by
  rw [joinBytes_eq, lowestFirst_splitBytes, littleSum_splitBytes]

/-! ### What a read sees -/

theorem stackByteAt_eq_insideStack (c : Config) (a : Nat) : stackByteAt c a = insideStack c a 1 :=
  regionHolds_stackArea c a 1

/-- Settles O58: a byte is an input where it is shared, and else its listed value, or what its place gives it. -/
theorem bytesSeenByReads : Obligations.BytesSeenByReads := by
  intro s a
  refine ⟨fun hu v hv => ?_, fun hs hn => ?_, fun hu hs hn => ?_, fun hu => ?_⟩
  · exact State.seenByte_own (by rw [sharedByteAt_eq_not_unshared, hu]; rfl) hv
  · exact State.seenByte_stack ((stackByteAt_eq_insideStack _ _).trans hs) hn
  · exact State.seenByte_launch (by rw [sharedByteAt_eq_not_unshared, hu]; rfl)
      ((stackByteAt_eq_insideStack _ _).trans hs) hn
  · exact State.seenByte_shared (by rw [sharedByteAt_eq_not_unshared, hu]; rfl)

/-- A byte of a map's value outside the stack is one that other agents may change (`48_imm64.md` R488). -/
theorem unshared_eq_false_of_mapValue {c : Config} {m : Word} {g : Region} {a : Nat}
    (hm : c.mapVal.lookup m = some g.base) (hg : g ∈ c.regions) (hin : insideRegion g a 1 = true)
    (hs : insideStack c a 1 = false) : unshared c a = false := by
  have hmap : mapValue c g = true := by
    obtain ⟨p, hp, hkey⟩ : ∃ p ∈ c.mapVal, p.1 = m := by
      obtain ⟨l, r, hsplit, -⟩ := List.lookup_eq_some_iff.mp hm
      exact ⟨(m, g.base), by simp [hsplit], rfl⟩
    exact List.any_eq_true.mpr ⟨p, hp, by simp [hkey, hm]⟩
  rw [unshared, hs, Bool.false_or, List.all_eq_false]
  exact ⟨g, hg, by simp [hmap, hin]⟩

/-- Settles O60: the byte is shared by R488, and a shared byte is an input by O58. -/
theorem mapValuesAreShared : Obligations.MapValuesAreShared := by
  intro s m g a hm hg hin hs
  have hu := unshared_eq_false_of_mapValue hm hg hin hs
  exact ⟨hu, (bytesSeenByReads s a).2.2.2 hu⟩

/-! ### Which bytes an instruction changes -/

theorem MemoryAfter.byte?_eq {i : Instr} {s : State} {m : Memory} {c : Nat} (h : MemoryAfter i s m)
    (hc : notStoredTo i s c) : m.byte? c = s.mem.byte? c := by
  obtain rfl | ⟨r, offset, n, kind, base, v, ha, hkind, hb, -, rfl⟩ := h
  · rfl
  · rw [effectiveAddress_eq_address]
    exact State.stored_outside _ _ _ _ _ (hc r offset n kind base ha hkind hb)

/-- Settles O33: of the completions only stores, atomic operations and helper calls change memory. -/
theorem memoryFrame : Obligations.MemoryFrame := by
  intro i s t c hi h hc
  obtain hdone | ⟨k, rfl⟩ := exec_outcome h
  · cases hdone with
    | wrote v draws _ _ hm => exact hm.byte?_eq hc
    | kept draws _ hm => exact hm.byte?_eq hc
    | helped r ws hhelper => cases hi.symm.trans hhelper
    | jumped | entered | left | finished => rfl
  · rfl

theorem exec_cfg {i : Instr} {s t : State} (h : exec i s = .next t) : t.cfg = s.cfg := by
  obtain hdone | ⟨k, rfl⟩ := exec_outcome h
  · exact hdone.prog_cfg.2
  · rfl

/-- Settles O59: the byte itself is kept by O33, and what a read sees of it depends on nothing else that changed. -/
theorem privateBytesChangeOnlyByOwnWrites : Obligations.PrivateBytesChangeOnlyByOwnWrites := by
  intro i s t a hi h hout hu hstack
  have hcfg := exec_cfg h
  have hbyte := memoryFrame i s t a hi h hout
  have hown : sharedByteAt s.cfg a = false := by rw [sharedByteAt_eq_not_unshared, hu]; rfl
  cases hs : insideStack s.cfg a 1 with
  | false => exact State.seenByte_congr hcfg hown ((stackByteAt_eq_insideStack _ _).trans hs) hbyte
  | true =>
    obtain ⟨v, hv⟩ := Option.ne_none_iff_exists'.mp (hstack hs)
    rw [State.seenByte_own hown hv, State.seenByte_own (hcfg ▸ hown) (hbyte.trans hv)]

end Sys2Proof.Claims
end

section
/-! PROOFS. How loads, stores and atomic operations complete at an admitted address: the loads (O23), the stores
(O24), a store and the load after it (O27), the atomic operations (O25) and compare and exchange (O26). -/

namespace Sys2Proof.Claims

open Sys2Proof.Machine

/-! ### Sign extension -/

/-- The signed reading of the low bits, on integers. -/
theorem toInt_setWidth_eq_signedLow {w n : Nat} (v : BitVec w) (hn : 0 < n) :
    (v.setWidth n).toInt = signedLow n v.toNat := by
  have hpow : 2 ^ n = 2 * 2 ^ (n - 1) := by rw [← Nat.pow_succ', Nat.succ_eq_add_one, Nat.sub_add_cancel hn]
  rw [BitVec.toInt_eq_toNat_cond, BitVec.toNat_setWidth, signedLow]
  refine ite_congr (propext ?_) (fun _ => rfl) fun _ => by norm_cast
  omega

theorem signExtend_setWidth {w n m : Nat} (v : BitVec w) (hn : 0 < n) :
    (v.setWidth n).signExtend m = BitVec.ofInt m (signedLow n v.toNat) := by
  rw [BitVec.signExtend, toInt_setWidth_eq_signedLow v hn]

/-! ### Loads -/

theorem load_of_admitted {s : State} {dst src : Reg} {offset : BitVec 16} {n : MemSize} {base : Word}
    (extend : Word → Word) (hb : s.regs.get src = some base)
    (ha : admitted s.cfg (address base offset) n .read = true) :
    s.load dst src offset n extend =
      .ok { wrote s dst (extend (s.valueAt (address base offset) n)) 1 with draws := s.draws + 1 } := by
  rw [State.load, State.readReg_some hb]
  simp only [bind, Except.bind, effectiveAddress_eq_address, memRead_of_admitted ha]
  rfl

/-- An instruction that loads with the extension `ext` has the results of the function that `ext` is on the value
read. -/
theorem load_of_exec {mk : Reg → Reg → BitVec 16 → Instr} {n : MemSize} {ext : Word → Word}
    {extend : Nat → Word} (hext : ∀ v : Word, ext v = extend v.toNat)
    (hexec : ∀ s dst src offset, exec (mk dst src offset) s = s.attempt (s.load dst src offset n ext)) :
    Load mk n extend := by
  intro s dst src offset base hb ha
  rw [hexec, load_of_admitted ext hb ha, State.attempt_ok, hext, toNat_valueAt]

theorem id_eq_ofNat (v : Word) : id v = BitVec.ofNat 64 v.toNat := by
  rw [id, BitVec.ofNat_toNat, BitVec.setWidth_eq]

/-- Settles O23: each load means its access in `exec`, with its extension of the value. -/
theorem loadResults : Obligations.LoadResults :=
  ⟨load_of_exec id_eq_ofNat fun _ _ _ _ => rfl, load_of_exec id_eq_ofNat fun _ _ _ _ => rfl,
    load_of_exec id_eq_ofNat fun _ _ _ _ => rfl, load_of_exec id_eq_ofNat fun _ _ _ _ => rfl,
    load_of_exec (ext := sext8) (fun v => signExtend_setWidth v (by decide)) fun _ _ _ _ => rfl,
    load_of_exec (ext := sext16) (fun v => signExtend_setWidth v (by decide)) fun _ _ _ _ => rfl,
    load_of_exec (ext := sext32) (fun v => signExtend_setWidth v (by decide)) fun _ _ _ _ => rfl⟩

/-! ### Stores -/

theorem fits_of_admitted {c : Config} {a : Word} {n : MemSize} {k : AccessKind} (h : admitted c a n k = true) :
    a.toNat + sizeBytes n ≤ 2 ^ 64 :=
  denial_none_fits (denial_eq_none_iff.mpr h)

theorem storeImm_of_exec {mk : Reg → BitVec 16 → BitVec 32 → Instr} {n : MemSize}
    (hexec : ∀ s dst offset imm, exec (mk dst offset imm) s = s.attempt (s.storeImm dst offset imm n)) :
    StoreImm mk n := by
  intro s dst offset imm base hb ha
  refine ⟨s.stored (address base offset) n (sextImm imm), ?_, storesBytes_stored (fits_of_admitted ha) rfl⟩
  have hmake := storeImm_makesAccess (offset := offset) (n := n) (imm := imm) hb
  rw [effectiveAddress_eq_address] at hmake
  obtain ⟨t, ht, -⟩ := hmake.completes ha
  obtain ⟨base', hb', -, rfl⟩ := State.storeImm_ok ht
  cases hb.symm.trans hb'
  rw [hexec, ht, effectiveAddress_eq_address]
  rfl

theorem storeReg_of_exec {mk : Reg → Reg → BitVec 16 → Instr} {n : MemSize}
    (hexec : ∀ s dst src offset, exec (mk dst src offset) s = s.attempt (s.storeReg dst src offset n)) :
    StoreReg mk n := by
  intro s dst src offset base v hb hv ha
  refine ⟨s.stored (address base offset) n v, ?_, storesBytes_stored (fits_of_admitted ha) rfl⟩
  rw [hexec, storeReg_of_admitted hb hv ha]
  rfl

/-- Settles O24: each store means its access in `exec`, and a store puts the bytes of R75. -/
theorem storeResults : Obligations.StoreResults :=
  ⟨storeImm_of_exec fun _ _ _ _ => rfl, storeImm_of_exec fun _ _ _ _ => rfl, storeImm_of_exec fun _ _ _ _ => rfl,
    storeImm_of_exec fun _ _ _ _ => rfl, storeReg_of_exec fun _ _ _ _ => rfl, storeReg_of_exec fun _ _ _ _ => rfl,
    storeReg_of_exec fun _ _ _ _ => rfl, storeReg_of_exec fun _ _ _ _ => rfl⟩

/-! ### A store and the load after it -/

theorem storeThenLoad_of_exec {store load : Reg → Reg → BitVec 16 → Instr} {n : MemSize}
    (hstore : ∀ s dst src offset, exec (store dst src offset) s = s.attempt (s.storeReg dst src offset n))
    (hload : ∀ s dst src offset, exec (load dst src offset) s = s.attempt (s.load dst src offset n id)) :
    StoreThenLoad store load n := by
  intro s dst src q offset base v hb hv hq hwrite hread hp
  obtain ⟨t, ht, hcfg, hregs, hmem⟩ : ∃ t, exec (store dst src offset) s = .next t ∧ t.cfg = s.cfg ∧
      t.regs = s.regs ∧ t.mem = s.stored (address base offset) n v := by
    rw [hstore, storeReg_of_admitted hb hv hwrite]
    exact ⟨_, rfl, rfl, rfl, rfl⟩
  have hvalue : t.valueAt (address base offset) n = BitVec.ofNat 64 (v.toNat % 2 ^ (8 * sizeBytes n)) := by
    rw [valueAt_of_stored (j := 0) hcfg hmem (fits_of_admitted hread) rfl (by omega) hp, List.drop_zero,
      List.take_of_length_le (by simp), joinBytes_splitBytes]
  have hl : exec (load q dst offset) t =
      .next { wrote t q (id (t.valueAt (address base offset) n)) 1 with draws := t.draws + 1 } := by
    rw [hload, load_of_admitted id (hregs ▸ hb) (hcfg ▸ hread), State.attempt_ok]
  exact ⟨t, _, ht, hl, (RegFile.get_put_same _ _ hq).trans (congrArg some hvalue)⟩

/-- Settles O27: the load joins the bytes that the store split. -/
theorem storeThenLoadReturnsValue : Obligations.StoreThenLoadReturnsValue :=
  ⟨storeThenLoad_of_exec (fun _ _ _ _ => rfl) fun _ _ _ _ => rfl,
    storeThenLoad_of_exec (fun _ _ _ _ => rfl) fun _ _ _ _ => rfl,
    storeThenLoad_of_exec (fun _ _ _ _ => rfl) fun _ _ _ _ => rfl,
    storeThenLoad_of_exec (fun _ _ _ _ => rfl) fun _ _ _ _ => rfl⟩

/-! ### Atomic operations -/

theorem toNat_low32 (v : Word) : (low32 v).toNat = v.toNat % 2 ^ 32 := BitVec.toNat_setWidth ..

theorem toNat_zext32 (v : BitVec 32) : (zext32 v).toNat = v.toNat :=
  BitVec.toNat_setWidth_of_le (by decide)

/-- At an admitted address the event reads the old value and stores what is to be stored (`47_atomic.md` R440). -/
theorem atomicEvent_of_admitted {s : State} {a : Word} {n : MemSize} (f : Word → Option Word)
    (ha : admitted s.cfg a n .atomic = true) :
    s.atomicEvent a n f = .ok (s.valueAt a n,
      { s with mem := ((f (s.valueAt a n)).map (s.stored a n)).getD s.mem, draws := s.draws + 1 }) := by
  rw [State.atomicEvent, State.checkAccess_none (denial_eq_none_iff.mpr ha)]
  simp only [bind, Except.bind]
  cases f (s.valueAt a n) <;> rfl

/-- The value that an atomic operation returns: `ret` changes nothing of a value of the width (`47_atomic.md` R442). -/
def ReturnsOld (n : MemSize) (ret : Word → Word) : Prop := ∀ v : Word, v.toNat < 2 ^ (8 * sizeBytes n) → ret v = v

theorem ReturnsOld.valueAt {n : MemSize} {ret : Word → Word} (h : ReturnsOld n ret) (s : State) (a : Word) :
    ret (s.valueAt a n) = BitVec.ofNat 64 (readValue s a n) := by
  rw [h _ (by rw [toNat_valueAt]; exact readValue_lt s a n), valueAt_eq_readValue]

theorem returnsOld_zext32_low32 : ReturnsOld .w fun v => zext32 (low32 v) := by
  intro v hv
  have hlt : v.toNat < 2 ^ 32 := hv
  apply BitVec.eq_of_toNat_eq
  rw [toNat_zext32, toNat_low32, Nat.mod_eq_of_lt hlt]

theorem returnsOld_id : ReturnsOld .dw fun v => v := fun _ _ => rfl

/-- The rule of an atomic operation that ends with `g`, a function of the event's answer. -/
theorem atomicRule_of_admitted {s : State} {dst src : Reg} {offset : BitVec 16} {n : MemSize} {base v : Word}
    (f : Word → Word → Option Word) (g : Word × State → State) (hb : s.regs.get dst = some base)
    (hv : s.regs.get src = some v) (ha : admitted s.cfg (address base offset) n .atomic = true) :
    (s.readReg dst >>= fun b => s.readReg src >>= fun v =>
      s.atomicEvent (effectiveAddress b offset) n (f v) >>= fun p => Except.ok (g p)) =
      .ok (g (s.valueAt (address base offset) n,
        { s with
          mem := ((f v (s.valueAt (address base offset) n)).map (s.stored (address base offset) n)).getD s.mem
          draws := s.draws + 1 })) := by
  rw [State.readReg_some hb, State.readReg_some hv]
  simp only [bind, Except.bind, effectiveAddress_eq_address, atomicEvent_of_admitted _ ha]

section AtomicForms

variable {keep fetch : Reg → Reg → BitVec 16 → Instr} {n : MemSize} {f : Word → Word → Word} {ret : Word → Word}

/-- An atomic operation that stores `f old v` and writes nothing else. -/
theorem atomicKeep_of_exec
    (hexec : ∀ s dst src offset, exec (keep dst src offset) s =
      s.attempt (s.readReg dst >>= fun b => s.readReg src >>= fun v =>
        s.atomicEvent (effectiveAddress b offset) n (fun old => some (f old v)) >>= fun p => .ok (p.2.advance 1)))
    {s : State} {dst src : Reg} {offset : BitVec 16} {base v : Word} (hb : s.regs.get dst = some base)
    (hv : s.regs.get src = some v) (ha : admitted s.cfg (address base offset) n .atomic = true) :
    exec (keep dst src offset) s = .next { s with
      mem := s.stored (address base offset) n (f (s.valueAt (address base offset) n) v)
      pc := s.pc + 1
      draws := s.draws + 1 } := by
  rw [hexec, atomicRule_of_admitted (fun v old => some (f old v)) (fun p => p.2.advance 1) hb hv ha]
  rfl

/-- An atomic operation that stores `f old v` and returns the old value in `src`. -/
theorem atomicFetch_of_exec (hret : ReturnsOld n ret)
    (hexec : ∀ s dst src offset, exec (fetch dst src offset) s =
      s.attempt (s.readReg dst >>= fun b => s.readReg src >>= fun v =>
        s.atomicEvent (effectiveAddress b offset) n (fun old => some (f old v)) >>= fun p =>
          .ok ((p.2.writeReg src (ret p.1)).advance 1)))
    {s : State} {dst src : Reg} {offset : BitVec 16} {base v : Word} (hb : s.regs.get dst = some base)
    (hv : s.regs.get src = some v) (ha : admitted s.cfg (address base offset) n .atomic = true) :
    exec (fetch dst src offset) s = .next { s with
      mem := s.stored (address base offset) n (f (s.valueAt (address base offset) n) v)
      regs := s.regs.put src (some (BitVec.ofNat 64 (readValue s (address base offset) n)))
      pc := s.pc + 1
      draws := s.draws + 1 } := by
  rw [hexec, atomicRule_of_admitted (fun v old => some (f old v)) (fun p => (p.2.writeReg src (ret p.1)).advance 1)
    hb hv ha, ← hret.valueAt]
  rfl

/-- A pair of atomic operations whose stored value is `op` of the operands, modulo the width. -/
theorem atomicPair_of_exec {op : Nat → Nat → Nat}
    (hop : ∀ old v : Word, (f old v).toNat % 2 ^ (8 * sizeBytes n) =
      op old.toNat v.toNat % 2 ^ (8 * sizeBytes n))
    (hret : ReturnsOld n ret)
    (hkeep : ∀ s dst src offset, exec (keep dst src offset) s =
      s.attempt (s.readReg dst >>= fun b => s.readReg src >>= fun v =>
        s.atomicEvent (effectiveAddress b offset) n (fun old => some (f old v)) >>= fun p => .ok (p.2.advance 1)))
    (hfetch : ∀ s dst src offset, exec (fetch dst src offset) s =
      s.attempt (s.readReg dst >>= fun b => s.readReg src >>= fun v =>
        s.atomicEvent (effectiveAddress b offset) n (fun old => some (f old v)) >>= fun p =>
          .ok ((p.2.writeReg src (ret p.1)).advance 1))) : AtomicPair keep fetch n op := by
  intro s dst src offset base v hb hv ha
  refine ⟨_, storesBytes_stored (fits_of_admitted ha) ?_, atomicKeep_of_exec hkeep hb hv ha,
    atomicFetch_of_exec hret hfetch hb hv ha⟩
  rw [hop, toNat_valueAt]

theorem atomicExchange_of_exec {mk : Reg → Reg → BitVec 16 → Instr}
    (hop : ∀ old v : Word, (f old v).toNat % 2 ^ (8 * sizeBytes n) = v.toNat % 2 ^ (8 * sizeBytes n))
    (hret : ReturnsOld n ret)
    (hexec : ∀ s dst src offset, exec (mk dst src offset) s =
      s.attempt (s.readReg dst >>= fun b => s.readReg src >>= fun v =>
        s.atomicEvent (effectiveAddress b offset) n (fun old => some (f old v)) >>= fun p =>
          .ok ((p.2.writeReg src (ret p.1)).advance 1))) : AtomicExchange mk n := by
  intro s dst src offset base v hb hv ha
  exact ⟨_, storesBytes_stored (fits_of_admitted ha) (hop _ v), atomicFetch_of_exec hret hexec hb hv ha⟩

end AtomicForms

/-! ### The operations of the atomics on integers -/

/-- A 32-bit operation on low halves stores what the operation on integers gives, modulo 2^32. -/
theorem toNat_on_low32 {op : BitVec 32 → BitVec 32 → BitVec 32} {f : Nat → Nat → Nat}
    (hop : ∀ d v, (op d v).toNat = f d.toNat v.toNat % 2 ^ 32)
    (hmod : ∀ x y, f (x % 2 ^ 32) (y % 2 ^ 32) % 2 ^ 32 = f x y % 2 ^ 32) (old v : Word) :
    (zext32 (op (low32 old) (low32 v))).toNat % 2 ^ 32 = f old.toNat v.toNat % 2 ^ 32 := by
  rw [toNat_zext32, hop, toNat_low32, toNat_low32, Nat.mod_mod, hmod]

section Operations

variable {w : Nat} (d v : BitVec w)

theorem toNat_addOp : (addOp d v).toNat = (d.toNat + v.toNat) % 2 ^ w := BitVec.toNat_add d v

theorem toNat_orOp : (orOp d v).toNat = (d.toNat ||| v.toNat) % 2 ^ w :=
  (Nat.mod_eq_of_lt (Nat.or_lt_two_pow d.isLt v.isLt)).symm

theorem toNat_andOp : (andOp d v).toNat = (d.toNat &&& v.toNat) % 2 ^ w :=
  (BitVec.toNat_and d v).trans (Nat.mod_eq_of_lt (Nat.and_lt_two_pow _ v.isLt)).symm

theorem toNat_xorOp : (xorOp d v).toNat = (d.toNat ^^^ v.toNat) % 2 ^ w :=
  (Nat.mod_eq_of_lt (Nat.xor_lt_two_pow d.isLt v.isLt)).symm

end Operations

/-- The two widths of a simple atomic operation. -/
theorem atomicPairs_of_exec {keep32 fetch32 keep64 fetch64 : Reg → Reg → BitVec 16 → Instr}
    {op32 : BitVec 32 → BitVec 32 → BitVec 32} {op64 : Word → Word → Word} {f : Nat → Nat → Nat}
    (h32 : ∀ d v, (op32 d v).toNat = f d.toNat v.toNat % 2 ^ 32)
    (h64 : ∀ d v, (op64 d v).toNat = f d.toNat v.toNat % 2 ^ 64)
    (hmod : ∀ x y, f (x % 2 ^ 32) (y % 2 ^ 32) % 2 ^ 32 = f x y % 2 ^ 32)
    (hkeep32 : ∀ s dst src offset, exec (keep32 dst src offset) s = s.attempt (s.atomicKeep32 dst src offset op32))
    (hfetch32 : ∀ s dst src offset, exec (fetch32 dst src offset) s = s.attempt (s.atomicFetch32 dst src offset op32))
    (hkeep64 : ∀ s dst src offset, exec (keep64 dst src offset) s = s.attempt (s.atomicKeep64 dst src offset op64))
    (hfetch64 : ∀ s dst src offset, exec (fetch64 dst src offset) s =
      s.attempt (s.atomicFetch64 dst src offset op64)) :
    AtomicPair keep32 fetch32 .w f ∧ AtomicPair keep64 fetch64 .dw f :=
  ⟨atomicPair_of_exec (toNat_on_low32 h32 hmod) returnsOld_zext32_low32 hkeep32 hfetch32,
    atomicPair_of_exec (fun old v => by rw [h64]; exact Nat.mod_mod _ _) returnsOld_id hkeep64 hfetch64⟩

/-- Settles O25: each operation means its event in `exec`, with the operation on integers modulo the width. -/
theorem atomicResults : Obligations.AtomicResults := by
  obtain ⟨add32, add64⟩ := atomicPairs_of_exec (keep32 := .atomicAdd32) (fetch32 := .atomicFetchAdd32)
    (keep64 := .atomicAdd64) (fetch64 := .atomicFetchAdd64) toNat_addOp toNat_addOp
    (fun x y => (Nat.add_mod x y _).symm) (fun _ _ _ _ => rfl) (fun _ _ _ _ => rfl) (fun _ _ _ _ => rfl)
    fun _ _ _ _ => rfl
  obtain ⟨or32, or64⟩ := atomicPairs_of_exec (keep32 := .atomicOr32) (fetch32 := .atomicFetchOr32)
    (keep64 := .atomicOr64) (fetch64 := .atomicFetchOr64) toNat_orOp toNat_orOp
    (fun x y => by simp only [Nat.or_mod_two_pow, Nat.mod_mod]) (fun _ _ _ _ => rfl) (fun _ _ _ _ => rfl)
    (fun _ _ _ _ => rfl) fun _ _ _ _ => rfl
  obtain ⟨and32, and64⟩ := atomicPairs_of_exec (keep32 := .atomicAnd32) (fetch32 := .atomicFetchAnd32)
    (keep64 := .atomicAnd64) (fetch64 := .atomicFetchAnd64) toNat_andOp toNat_andOp
    (fun x y => by simp only [Nat.and_mod_two_pow, Nat.mod_mod]) (fun _ _ _ _ => rfl) (fun _ _ _ _ => rfl)
    (fun _ _ _ _ => rfl) fun _ _ _ _ => rfl
  obtain ⟨xor32, xor64⟩ := atomicPairs_of_exec (keep32 := .atomicXor32) (fetch32 := .atomicFetchXor32)
    (keep64 := .atomicXor64) (fetch64 := .atomicFetchXor64) toNat_xorOp toNat_xorOp
    (fun x y => by simp only [Nat.xor_mod_two_pow, Nat.mod_mod]) (fun _ _ _ _ => rfl) (fun _ _ _ _ => rfl)
    (fun _ _ _ _ => rfl) fun _ _ _ _ => rfl
  exact ⟨add32, add64, or32, or64, and32, and64, xor32, xor64,
    atomicExchange_of_exec (f := fun _ v => zext32 (low32 v))
      (fun _ v => by rw [toNat_zext32, toNat_low32]; exact Nat.mod_mod _ _) returnsOld_zext32_low32 fun _ _ _ _ => rfl,
    atomicExchange_of_exec (f := fun _ v => v) (fun _ _ => rfl) returnsOld_id fun _ _ _ _ => rfl⟩

/-! ### Compare and exchange -/

/-- Compare and exchange whose test is equality modulo the width, and whose stored value is that of `src`. -/
theorem atomicCompare_of_exec {mk : Reg → Reg → BitVec 16 → Instr} {n : MemSize} {test : Word → Word → Prop}
    [∀ old e, Decidable (test old e)] {new ret : Word → Word}
    (htest : ∀ old e : Word, old.toNat < 2 ^ (8 * sizeBytes n) →
      (test old e ↔ old.toNat = e.toNat % 2 ^ (8 * sizeBytes n)))
    (hnew : ∀ v : Word, (new v).toNat % 2 ^ (8 * sizeBytes n) = v.toNat % 2 ^ (8 * sizeBytes n))
    (hret : ReturnsOld n ret)
    (hexec : ∀ s dst src offset, exec (mk dst src offset) s =
      s.attempt (s.readReg dst >>= fun b => s.readReg src >>= fun v => s.readReg .r0 >>= fun e =>
        s.atomicEvent (effectiveAddress b offset) n (fun old => if test old e then some (new v) else none) >>= fun p =>
          .ok ((p.2.writeReg .r0 (ret p.1)).advance 1))) : AtomicCompare mk n := by
  intro s dst src offset base v e hb hv he ha
  have hmatch := htest (s.valueAt (address base offset) n) e (by rw [toNat_valueAt]; exact readValue_lt _ _ _)
  rw [toNat_valueAt] at hmatch
  have hrule := hexec s dst src offset
  rw [State.readReg_some hb, State.readReg_some hv, State.readReg_some he] at hrule
  simp only [bind, Except.bind, effectiveAddress_eq_address, atomicEvent_of_admitted _ ha, State.attempt_ok,
    hret.valueAt] at hrule
  by_cases h : test (s.valueAt (address base offset) n) e
  · refine ⟨s.stored (address base offset) n (new v), ?_, ?_⟩
    · rw [if_pos (hmatch.mp h)]
      exact storesBytes_stored (fits_of_admitted ha) (hnew v)
    · rw [hrule, if_pos h]
      rfl
  · refine ⟨s.mem, ?_, ?_⟩
    · rw [if_neg (mt hmatch.mpr h)]
    · rw [hrule, if_neg h]
      rfl

/-- Settles O26: the low halves are equal exactly where a 32-bit value equals the low half of R0. -/
theorem compareExchangeResults : Obligations.CompareExchangeResults := by
  refine ⟨atomicCompare_of_exec (test := fun old e => low32 old = low32 e) (new := fun v => zext32 (low32 v))
      (fun old e hold => ?_) (fun v => ?_) returnsOld_zext32_low32 fun _ _ _ _ => rfl,
    atomicCompare_of_exec (test := fun old e => old = e) (new := fun v => v) (fun old e _ => ?_) (fun _ => rfl)
      returnsOld_id fun _ _ _ _ => rfl⟩
  · have hlt : old.toNat < 2 ^ 32 := hold
    rw [BitVec.toNat_eq, toNat_low32, toNat_low32, Nat.mod_eq_of_lt hlt]
    rfl
  · rw [toNat_zext32, toNat_low32]
    exact Nat.mod_mod _ _
  · rw [BitVec.toNat_eq, show 2 ^ (8 * sizeBytes .dw) = 2 ^ 64 from rfl, Nat.mod_eq_of_lt e.isLt]

end Sys2Proof.Claims
end

section
/-! PROOFS. The moves and negations (O2, O4), the wide immediate (O29) and the unconditional jumps (O11), the division
identity of the signed operations (O6), and that a 32-bit instruction sees low halves only (O5). -/

namespace Sys2Proof.Claims

open Sys2Proof.Machine

/-! ### Negations and moves -/

theorem negOp_eq_negationOf {w : Nat} (d : BitVec w) : negOp d = negationOf d := by
  rw [negOp, negationOf, BitVec.ofInt_neg, BitVec.ofInt_natCast, BitVec.ofNat_toNat, BitVec.setWidth_eq]

/-- An instruction that writes to its destination the value `op` of it has the results of the function `op` equals. -/
theorem onDst_of_exec {mk : Reg → Instr} {op f : Word → Word} (hop : ∀ d, op d = f d)
    (hexec : ∀ s dst, exec (mk dst) s =
      s.attempt (s.readReg dst >>= fun d => .ok ((s.writeReg dst (op d)).advance 1))) : OnDst mk fun _ => f := by
  intro s dst d hd
  rw [hexec, State.readReg_some hd]
  exact congrArg (fun v => Host.Outcome.next (wrote s dst v 1)) (hop d)

theorem fromSrc_of_exec {mk : Reg → Reg → Instr} {op f : Word → Word} (hop : ∀ v, op v = f v)
    (hexec : ∀ s dst src, exec (mk dst src) s = s.attempt (s.move src dst op)) : FromSrc mk f := by
  intro s dst src v hv
  rw [hexec, State.move, State.readReg_some hv, ← hop]
  rfl

/-- Settles O2: each instruction means its move in `exec`. -/
theorem move64Results : Obligations.Move64Results :=
  ⟨onDst_of_exec negOp_eq_negationOf fun _ _ => rfl, fun _ _ _ => rfl,
    fromSrc_of_exec (op := id) (fun _ => rfl) fun _ _ _ => rfl,
    fromSrc_of_exec (op := sext8) (fun v => signExtend_setWidth v (by decide)) fun _ _ _ => rfl,
    fromSrc_of_exec (op := sext16) (fun v => signExtend_setWidth v (by decide)) fun _ _ _ => rfl,
    fromSrc_of_exec (op := sext32) (fun v => signExtend_setWidth v (by decide)) fun _ _ _ => rfl⟩

/-- A value below 2^32 of a move, in the words of the statements. -/
theorem zext32_signExtend_setWidth {n : Nat} (hn : 0 < n) (v : Word) :
    zext32 ((v.setWidth n).signExtend 32) = widened (BitVec.ofInt 32 (signedLow n v.toNat)) := by
  rw [signExtend_setWidth v hn, zext32_eq_widened]

/-- Settles O4: each instruction means its move in `exec`, and a 32-bit result is widened with zeros. -/
theorem move32Results : Obligations.Move32Results :=
  ⟨onDst_of_exec (op := fun d => zext32 (negOp (low32 d)))
      (fun d => by rw [negOp_eq_negationOf, zext32_eq_widened, low32_eq_lowHalf]) fun _ _ => rfl,
    fun s dst imm => congrArg (fun v => Host.Outcome.next (wrote s dst v 1)) (zext32_eq_widened imm),
    fromSrc_of_exec (op := fun v => zext32 (low32 v)) (fun v => by rw [zext32_eq_widened, low32_eq_lowHalf])
      fun _ _ _ => rfl,
    fromSrc_of_exec (op := fun v => zext32 (sext8To32 v)) (zext32_signExtend_setWidth (by decide)) fun _ _ _ => rfl,
    fromSrc_of_exec (op := fun v => zext32 (sext16To32 v)) (zext32_signExtend_setWidth (by decide)) fun _ _ _ => rfl⟩

/-! ### The wide immediate and the unconditional jumps -/

theorem wideImm_eq_ofNat (imm nextImm : BitVec 32) :
    wideImm imm nextImm = BitVec.ofNat 64 (nextImm.toNat * 2 ^ 32 + imm.toNat) := by
  have hsum : (wideImm imm nextImm).toNat = nextImm.toNat * 2 ^ 32 + imm.toNat := toNat_append_eq_add nextImm imm
  rw [← hsum, BitVec.ofNat_toNat, BitVec.setWidth_eq]

/-- Settles O29: LDDW writes its 64-bit immediate in `exec`, the sum of its two halves. -/
theorem wideImmediate : Obligations.WideImmediate := fun s dst imm nextImm =>
  congrArg (fun v => Host.Outcome.next (wrote s dst v 2)) (wideImm_eq_ofNat imm nextImm)

/-- Settles O11: the jumps set pc in `exec`, and a register that takes its own value is unchanged. -/
theorem unconditionalJumps : Obligations.UnconditionalJumps := by
  have hja (s : State) (offset : BitVec 16) : exec (.ja offset) s = .next (jumped s (s.pc + 1 + offset.toInt)) := rfl
  refine ⟨hja, fun _ _ => rfl, fun s => ?_, fun s r v hv => ?_⟩
  · exact (hja s 0).trans (congrArg (fun p => Host.Outcome.next (jumped s p)) (Int.add_zero _))
  · obtain ⟨-, -, hmov, -⟩ := move64Results
    rw [hmov s r r v hv, id, wrote_of_get hv]

/-! ### Signed division -/

section SignedDivision

variable {w : Nat} (a b : BitVec w)

theorem sdivOp_mul_add_smodOp : a = b * sdivOp a b + smodOp a b := by
  rw [sdivOp, smodOp]
  split
  case isTrue hb => simp [hb]
  case isFalse =>
    calc a = BitVec.ofInt w (b.toInt * a.toInt.tdiv b.toInt + a.toInt.tmod b.toInt) := by
          rw [Int.mul_tdiv_add_tmod, BitVec.ofInt_toInt]
      _ = _ := by rw [BitVec.ofInt_add, BitVec.ofInt_mul, BitVec.ofInt_toInt]

variable {a b}

theorem natAbs_tmod_lt (hb : b ≠ 0) : (a.toInt.tmod b.toInt).natAbs < b.toInt.natAbs := by
  have hne : b.toInt ≠ 0 := fun h => hb (BitVec.toInt_inj.mp (h.trans BitVec.toInt_zero.symm))
  rw [Int.natAbs_tmod]
  exact Nat.mod_lt _ (Int.natAbs_pos.mpr hne)

/-- The remainder of the integers fits the width, since it is smaller than the divisor. -/
theorem toInt_smodOp (hb : b ≠ 0) : (smodOp a b).toInt = a.toInt.tmod b.toInt := by
  have hlt := natAbs_tmod_lt (a := a) hb
  have hlow := b.le_toInt
  have hhigh := b.toInt_lt
  rw [smodOp, if_neg hb, BitVec.toInt_ofInt_eq_self]
  · exact Nat.pos_of_ne_zero fun h => hb (by subst h; exact Subsingleton.elim _ _)
  · omega
  · omega

/-- The remainder is zero or takes the sign of the dividend. -/
theorem smodOp_eq_zero_or_sign (hb : b ≠ 0) : smodOp a b = 0 ∨ ((smodOp a b).toInt < 0 ↔ a.toInt < 0) := by
  have hsign := Int.sign_tmod a.toInt b.toInt
  rw [← toInt_smodOp hb] at hsign
  split at hsign
  · exact .inl (BitVec.toInt_inj.mp ((Int.sign_eq_zero_iff_zero.mp hsign).trans BitVec.toInt_zero.symm))
  · exact .inr (by rw [← Int.sign_eq_neg_one_iff_neg, hsign, Int.sign_eq_neg_one_iff_neg])

end SignedDivision

/-- Settles O6: the two instructions write the quotient and the remainder of the machine's division. -/
theorem signedDivisionIdentity : Obligations.SignedDivisionIdentity := by
  intro s dst src a b ha hb hne
  exact ⟨sdivOp a b, smodOp a b, congrArg s.attempt (alu64Reg_of_get sdivOp ha hb),
    congrArg s.attempt (alu64Reg_of_get smodOp ha hb), sdivOp_mul_add_smodOp a b,
    by rw [toInt_smodOp hne]; exact natAbs_tmod_lt hne, smodOp_eq_zero_or_sign hne⟩

/-! ### Low halves -/

theorem low32_eq_low32_iff {d e : Word} : low32 d = low32 e ↔ d.toNat % 2 ^ 32 = e.toNat % 2 ^ 32 := by
  rw [BitVec.toNat_eq, toNat_low32, toNat_low32]

/-- A register that holds a value holds one of the same low half in the other register file. -/
theorem sameLowHalves.get {f g : RegFile} (h : sameLowHalves f g) {r : Reg} {d : Word} (hd : f.get r = some d) :
    ∃ e, g.get r = some e ∧ low32 e = low32 d := by
  have hr := h r
  rw [hd, Option.map_some, eq_comm, Option.map_eq_some_iff] at hr
  obtain ⟨e, he, heq⟩ := hr
  exact ⟨e, he, low32_eq_low32_iff.mpr heq⟩

/-- Where `i` completes it writes a zero-extended 32-bit value to its destination, the same one on every register file
with the same low halves (`41_alu32.md` R250). -/
def WritesFromLowHalves (i : Instr) : Prop :=
  ∃ dst : Reg, i.fields.dst = dst.number ∧ ∀ (s t : State) (f : RegFile), sameLowHalves s.regs f →
    exec i s = .next t → isFault t.status = false →
    ∃ v : BitVec 32, t = wrote s dst (zext32 v) 1 ∧
      exec i { s with regs := f } = .next (wrote { s with regs := f } dst (zext32 v) 1)

/-- A next state without a fault is that of a completed rule. -/
theorem State.attempt_next_of_no_fault {s t : State} {x : Except FaultInfo State} (h : s.attempt x = .next t)
    (hf : isFault t.status = false) : x = .ok t := by
  obtain hx | ⟨k, -, rfl⟩ := State.attempt_next h
  · exact hx
  · cases hf

section LowHalves

variable {i : Instr} {dst : Reg}

/-- A rule that reads one register by its low half. -/
theorem writesFromLowHalves_one {r : Reg} {g : Word → BitVec 32} (hdst : i.fields.dst = dst.number)
    (hg : ∀ d e, low32 d = low32 e → g d = g e)
    (hexec : ∀ s, exec i s =
      s.attempt (s.readReg r >>= fun d => .ok ((s.writeReg dst (zext32 (g d))).advance 1))) :
    WritesFromLowHalves i := by
  refine ⟨dst, hdst, fun s t f hlow h hf => ?_⟩
  rw [hexec] at h
  obtain ⟨d, hd, ht⟩ := bind_ok (State.attempt_next_of_no_fault h hf)
  obtain ⟨e, he, heq⟩ := hlow.get (State.readReg_ok hd)
  refine ⟨g d, (Except.ok.inj ht).symm, ?_⟩
  rw [hexec, State.readReg_some (s := { s with regs := f }) he, ← hg e d heq]
  rfl

/-- A rule that reads two registers by their low halves. -/
theorem writesFromLowHalves_two {r q : Reg} {op : BitVec 32 → BitVec 32 → BitVec 32}
    (hdst : i.fields.dst = dst.number)
    (hexec : ∀ s, exec i s = s.attempt (s.readReg r >>= fun d => s.readReg q >>= fun v =>
      .ok ((s.writeReg dst (zext32 (op (low32 d) (low32 v)))).advance 1))) : WritesFromLowHalves i := by
  refine ⟨dst, hdst, fun s t f hlow h hf => ?_⟩
  rw [hexec] at h
  obtain ⟨d, hd, h⟩ := bind_ok (State.attempt_next_of_no_fault h hf)
  obtain ⟨v, hv, ht⟩ := bind_ok h
  obtain ⟨d', hd', hdeq⟩ := hlow.get (State.readReg_ok hd)
  obtain ⟨v', hv', hveq⟩ := hlow.get (State.readReg_ok hv)
  refine ⟨op (low32 d) (low32 v), (Except.ok.inj ht).symm, ?_⟩
  rw [hexec, State.readReg_some (s := { s with regs := f }) hd', State.readReg_some (s := { s with regs := f }) hv',
    ← hdeq, ← hveq]
  rfl

/-- A rule that writes a constant. -/
theorem writesFromLowHalves_const {v : BitVec 32} (hdst : i.fields.dst = dst.number)
    (hexec : ∀ s, exec i s = .next ((s.writeReg dst (zext32 v)).advance 1)) : WritesFromLowHalves i := by
  refine ⟨dst, hdst, fun s t f _ h _ => ⟨v, ?_, hexec _⟩⟩
  rw [hexec] at h
  exact (Host.Outcome.next.inj h).symm

/-- The low `n` bits of a register are low bits of its low half. -/
theorem setWidth_eq_of_low32_eq {n : Nat} (hn : n ≤ 32) {d e : Word} (h : low32 d = low32 e) :
    d.setWidth n = e.setWidth n := by
  rw [← BitVec.setWidth_setWidth_of_le d hn, ← BitVec.setWidth_setWidth_of_le e hn]
  exact congrArg (BitVec.setWidth n) h

end LowHalves

/-- Every instruction of class `BPF_ALU` but the byte swaps. -/
theorem writesFromLowHalves_of_isAlu32 {i : Instr} (hi : isAlu32 i = true) : WritesFromLowHalves i := by
  cases i with
  | add32K _ _ | sub32K _ _ | mul32K _ _ | div32K _ _ | sdiv32K _ _ | or32K _ _ | and32K _ _ | lsh32K _ _
  | rsh32K _ _ | mod32K _ _ | smod32K _ _ | xor32K _ _ | arsh32K _ _ | neg32 _ | mov32X _ _ =>
    exact writesFromLowHalves_one rfl (fun d e h => by rw [h]) fun _ => rfl
  | add32X _ _ | sub32X _ _ | mul32X _ _ | div32X _ _ | sdiv32X _ _ | or32X _ _ | and32X _ _ | lsh32X _ _
  | rsh32X _ _ | mod32X _ _ | smod32X _ _ | xor32X _ _ | arsh32X _ _ =>
    exact writesFromLowHalves_two rfl fun _ => rfl
  | mov32K _ _ => exact writesFromLowHalves_const rfl fun _ => rfl
  | movsx32From8 _ _ =>
    exact writesFromLowHalves_one (g := sext8To32) rfl
      (fun _ _ h => congrArg (BitVec.signExtend 32) (setWidth_eq_of_low32_eq (by decide) h)) fun _ => rfl
  | movsx32From16 _ _ =>
    exact writesFromLowHalves_one (g := sext16To32) rfl
      (fun _ _ h => congrArg (BitVec.signExtend 32) (setWidth_eq_of_low32_eq (by decide) h)) fun _ => rfl
  | ldAbs size _ _ _ _ | ldInd size _ _ _ _ => cases size <;> simp [isAlu32, Instr.fields, MemSize.bits] at hi
  | _ => simp [isAlu32, Instr.fields] at hi

/-- Settles O5: both runs write the same zero-extended value to the same register. -/
theorem upperHalvesDoNotMatter : Obligations.UpperHalvesDoNotMatter := by
  intro i s t u f r hi hlow ht hu hf hr hne
  obtain ⟨dst, hdst, hwrites⟩ := writesFromLowHalves_of_isAlu32 hi
  obtain ⟨v, rfl, hexec⟩ := hwrites s t f hlow ht hf
  obtain rfl : r = dst := Option.some.inj (by rw [← Reg.ofNumber_number r, hr, hdst, Reg.ofNumber_number])
  obtain rfl := Host.Outcome.next.inj (hexec.symm.trans hu)
  have hget (x : State) : (wrote x r (zext32 v) 1).regs.get r = some (zext32 v) := RegFile.get_put_same _ _ hne
  refine ⟨(hget _).trans (hget _).symm, zext32 v, hget _, ?_⟩
  rw [toNat_zext32]
  exact v.isLt

end Sys2Proof.Claims
end

section
/-! PROOFS. How calls complete: helper functions by their answer (O13, O14, O16), program-local calls (O17), and the
return from them (O19, O20). -/

namespace Sys2Proof.Claims

open Sys2Proof.Machine

/-! ### The arguments and the cases of a helper -/

theorem readRegs_of_mapM {s : State} {rs : List Reg} {vs : List Word} (h : rs.mapM s.regs.get = some vs) :
    s.readRegs rs = .ok vs := by
  induction rs generalizing vs with
  | nil =>
    cases h
    rfl
  | cons r rs ih =>
    rw [List.mapM_cons] at h
    obtain ⟨v, hv, h⟩ := Option.bind_eq_some_iff.mp h
    obtain ⟨vs', hvs, h⟩ := Option.bind_eq_some_iff.mp h
    cases h
    rw [State.readRegs, State.readReg_some hv, ih hvs]
    rfl

theorem readArgs_of_argsOf {s : State} {k : Nat} {args : List Word} (h : argsOf s k = some args) :
    s.readArgs k = .ok args :=
  readRegs_of_mapM h

theorem caseHolds_eq_caseApplies (s : State) (args : List Word) : caseHolds s args = s.caseApplies args := by
  funext k
  rw [Bool.eq_iff_iff]
  simp only [caseHolds, State.caseApplies, Bool.and_eq_true, decide_eq_true_iff, beq_iff_eq, List.all_eq_true]

/-- The answer that the launch fixes (`45_call_exit.md` R395). -/
theorem answerOf_of_caseHolds {s : State} {h : Helper} {args : List Word} {k : HelperCase}
    (hk : h.known.find? (caseHolds s args) = some k) (tb : HelperTable) (imm : BitVec 32) :
    s.answerOf tb imm h args = k.answer :=
  State.answerOf_known (by rwa [← caseHolds_eq_caseApplies])

/-! ### Scattered writes -/

/-- A later write to the address is the last one, and else the first of the list is. -/
theorem lastWrite_cons (a : Word) (v : Byte) (ws : List (Word × Byte)) (c : Nat) :
    lastWrite ((a, v) :: ws) c = (lastWrite ws c).or (if a.toNat = c then some v else none) := by
  rw [lastWrite, lastWrite, List.reverse_cons, List.find?_append, Option.map_or]
  by_cases hac : a.toNat = c <;> simp [hac]

theorem byte?_apply (m : Memory) (ws : List (Word × Byte)) (c : Nat) :
    (m.apply ws).byte? c = (lastWrite ws c).or (m.byte? c) := by
  induction ws generalizing m with
  | nil => rfl
  | cons w ws ih =>
    obtain ⟨a, v⟩ := w
    rw [Memory.apply, ih, lastWrite_cons, Option.or_assoc]
    by_cases hac : a.toNat = c
    · rw [if_pos hac, ← hac, Memory.byte?_set_same m v a.isLt, Option.some_or]
    · rw [if_neg hac, Memory.byte?_set_other m v (Ne.symm hac), Option.none_or]

/-! ### Helper calls -/

theorem exec_of_helperOf {i : Instr} {tb : HelperTable} {imm : BitVec 32} (hi : helperOf i = some (tb, imm))
    (s : State) : exec i s = s.attempt (s.callHelper tb imm) := by
  unfold helperOf at hi
  split at hi
  · cases hi
    rfl
  · cases hi
    rfl
  · cases hi

section HelperCall

variable {i : Instr} {tb : HelperTable} {imm : BitVec 32} {s : State} {h : Helper} {args : List Word}

theorem exec_of_helper_result {r : Word} {ws : List (Word × Byte)} (hi : helperOf i = some (tb, imm))
    (hl : (helperTable s.cfg tb).lookup imm = some h) (ha : argsOf s h.arity.val = some args)
    (hanswer : s.answerOf tb imm h args = .result r ws) : exec i s = .next (s.afterHelper r ws) := by
  rw [exec_of_helperOf hi, State.callHelper, hl]
  simp only [readArgs_of_argsOf ha, bind, Except.bind, hanswer]
  rfl

theorem exec_of_helper_failure (hi : helperOf i = some (tb, imm)) (hl : (helperTable s.cfg tb).lookup imm = some h)
    (ha : argsOf s h.arity.val = some args) (hanswer : s.answerOf tb imm h args = .failure) :
    exec i s = .next (faulted s (.helperFault s.pc imm)) := by
  rw [exec_of_helperOf hi, State.callHelper, hl]
  simp only [readArgs_of_argsOf ha, bind, Except.bind, hanswer]
  rfl

end HelperCall

/-- Settles O13: the call takes the answer of the first case that holds, whose writes are scattered writes. -/
theorem helperCallResults : Obligations.HelperCallResults := by
  intro i tb imm s h args k r ws hi hl ha hk hanswer
  have hresult : s.answerOf tb imm h args = .result r ws := (answerOf_of_caseHolds hk tb imm).trans hanswer
  exact ⟨s.mem.apply ws, exec_of_helper_result hi hl ha hresult, byte?_apply s.mem ws⟩

/-- Settles O14: every answer is a failure or a result. -/
theorem helperCallPreserves : Obligations.HelperCallPreserves := by
  intro i tb imm s h args hi hl ha
  cases hanswer : s.answerOf tb imm h args with
  | failure => exact ⟨_, exec_of_helper_failure hi hl ha hanswer, .inl rfl⟩
  | result r ws =>
    refine ⟨_, exec_of_helper_result hi hl ha hanswer, .inr ⟨rfl, rfl, rfl, ?_, ⟨r, rfl⟩, ?_⟩⟩
    · simp only [List.forall_mem_cons]
      exact ⟨rfl, rfl, rfl, rfl, rfl, nofun⟩
    · simp only [List.forall_mem_cons]
      exact ⟨rfl, rfl, rfl, rfl, rfl, nofun⟩

/-- Settles O16: the arguments are read first, and the failure is the answer of the first case that holds. -/
theorem helperArgumentsThenFailure : Obligations.HelperArgumentsThenFailure := by
  intro i tb imm s h hi hl
  refine ⟨fun r hr => exec_of_unwritten ?_, fun args k ha hk hanswer => ?_⟩
  · rwa [readsIn_of_known_helper hi hl]
  · exact exec_of_helper_failure hi hl ha ((answerOf_of_caseHolds hk tb imm).trans hanswer)

/-! ### Program-local calls -/

theorem callDistance_eq_callDisplacement (c : Config) (offset : BitVec 16) (imm : BitVec 32) :
    callDistance c offset imm = callDisplacement c offset imm := by
  unfold callDistance callDisplacement
  cases c.localCallDisp <;> rfl

/-- R10 goes down by one frame, on integers (`45_call_exit.md` R391). -/
theorem ofInt_toNat_sub (x : Word) (n : Nat) : BitVec.ofInt 64 ((x.toNat : Int) - n) = x - BitVec.ofNat 64 n := by
  rw [Int.sub_eq_add_neg, BitVec.ofInt_add, BitVec.ofInt_neg, BitVec.ofInt_natCast, BitVec.ofInt_natCast,
    BitVec.ofNat_toNat, BitVec.setWidth_eq, BitVec.sub_eq_add_neg]

/-- Settles O17: below the limit the call enters its callee. -/
theorem localCallResult : Obligations.LocalCallResult := by
  intro s offset imm hlt
  have hcall : s.callLocal (callDisplacement s.cfg offset imm) = .ok (s.enter (callDisplacement s.cfg offset imm)) :=
    if_neg (Nat.not_le.mpr hlt)
  rw [ofInt_toNat_sub, callDistance_eq_callDisplacement]
  exact congrArg s.attempt hcall

/-! ### Returns -/

theorem leaveOrFinish_of_nil {s : State} {v : Word} (hv : s.regs.r0 = some v) (hframes : s.frames = []) :
    s.leaveOrFinish = .ok (s.finish v) := by
  rw [State.leaveOrFinish, State.readReg_some (r := .r0) hv]
  simp only [bind, Except.bind, hframes]
  rfl

theorem leaveOrFinish_of_cons {s : State} {v : Word} {f : Frame} {rest : List Frame} (hv : s.regs.r0 = some v)
    (hframes : s.frames = f :: rest) : s.leaveOrFinish = .ok (s.leave f rest) := by
  rw [State.leaveOrFinish, State.readReg_some (r := .r0) hv]
  simp only [bind, Except.bind, hframes]
  rfl

/-- Settles O19: EXIT reads R0 and then ends the execution or leaves its callee, as the call stack says. -/
theorem exitResults : Obligations.ExitResults :=
  ⟨fun s _ hv hframes => congrArg s.attempt (leaveOrFinish_of_nil hv hframes),
    fun s _ _ _ hv hframes => congrArg s.attempt (leaveOrFinish_of_cons hv hframes)⟩

/-- Settles O20: the record that the call pushed holds what the return restores. -/
theorem callThenReturn : Obligations.CallThenReturn := by
  intro s t u offset imm v hs h ht hframes hv
  obtain hok | ⟨k, -, rfl⟩ := State.attempt_next h
  · obtain ⟨-, rfl⟩ := State.callLocal_ok hok
    obtain ⟨-, hleave⟩ := exitResults
    refine ⟨_, hleave u v s.frameNow s.frames hv hframes, rfl, rfl, rfl, rfl, ?_, hv, ?_⟩
    · simp only [List.forall_mem_cons]
      exact ⟨rfl, rfl, rfl, rfl, rfl, nofun⟩
    · simp only [List.forall_mem_cons]
      exact ⟨rfl, rfl, rfl, rfl, rfl, nofun⟩
  · cases ht

end Sys2Proof.Claims
end
